-- ==== Sys2Proof/Word.lean ====
section
/-! DEFINITION. The word types of the machine (00_scope R10, R13, R14): 32-bit words, bytes, halfwords, 5-bit register numbers. -/

namespace Sys2Proof

/-- A 32-bit word (00_scope R13). -/
abbrev Word := BitVec 32

/-- A byte (00_scope R13). -/
abbrev Byte := BitVec 8

/-- A 16-bit halfword or immediate (00_scope R13, 30_encoding R181). -/
abbrev Half := BitVec 16

/-- The number of a general register, or of a COP0 register: a 5-bit field (30_encoding R181). -/
abbrev Reg := BitVec 5

end Sys2Proof
end

