-- ==== Sys2Proof/Config.lean ====
section
/-! DEFINITION. What one machine fixes and its environment leaves free: the parameters of 00_scope R11 as plain data, the
constants of the block, and the free values (`draw()` of 00_scope R18) as an opaque function. -/

namespace Sys2Proof

/-- CAUSE_ENTRY_MODE (92_eei_decisions D12): what exception entry does to Cause bits 9:8. -/
inductive CauseEntryMode where
  | overwrite
  | preserveIP
  deriving DecidableEq, Repr

/-- COP2_MODE (92_eei_decisions D21): how a word of the geometry coprocessor's group is treated. -/
inductive Cop2Mode where
  | refuse
  | noOp
  deriving DecidableEq, Repr

/-- One window of EXTERNAL_RANGES (20_memory R110): a named range of physical addresses an external collaborator serves. -/
structure ExtRange where
  name : String
  base : Nat
  size : Nat
  deriving DecidableEq, Repr

/-- The parameters of 00_scope R11. They are carried in the state's field `cfg`, which no step changes, so that a statement
about every state is a statement about every configuration (log 3). BIOS_IMAGE is the ROM part of memory (log 2). -/
structure Config where
  /-- RAM_WINDOW (20_memory R104). -/
  ramWindow : Nat
  /-- CYCLES_PER_INSTR (10_state R81). -/
  cyclesPerInstr : Nat
  /-- DATA_ACCESS_CYCLES (20_memory R117). -/
  dataAccessCycles : Nat
  /-- ROM_EXTRA_CYCLES (20_memory R117). -/
  romExtraCycles : Nat
  /-- DMA_IRQ_DELAY (60_exceptions R512). -/
  dmaIrqDelay : Nat
  /-- CAUSE_ENTRY_MODE (60_exceptions R436). -/
  causeEntryMode : CauseEntryMode
  /-- COP2_MODE (44_system R397). -/
  cop2Mode : Cop2Mode
  /-- EXTERNAL_RANGES (20_memory R110). -/
  externalRanges : List ExtRange
  deriving DecidableEq, Repr

/-- The default table of EXTERNAL_RANGES (20_memory R110). -/
def Config.defaultRanges : List ExtRange :=
  [⟨"pad", 0x1F801040, 0x20⟩, ⟨"timers", 0x1F801100, 0x30⟩, ⟨"cdrom", 0x1F801800, 0x4⟩,
   ⟨"gpu", 0x1F801810, 0x8⟩, ⟨"spu", 0x1F801C00, 0x280⟩]

/-- The configuration the reset state carries: RAM_WINDOW, CAUSE_ENTRY_MODE, COP2_MODE and EXTERNAL_RANGES at the defaults of
00_scope R11. DESIGN CHOICE (log 4): the four OPEN cycle parameters take the example instance of 95_test_vectors P4. -/
def Config.default : Config where
  ramWindow := 0x00800000
  cyclesPerInstr := 2
  dataAccessCycles := 1
  romExtraCycles := 3
  dmaIrqDelay := 16
  causeEntryMode := .overwrite
  cop2Mode := .refuse
  externalRanges := Config.defaultRanges

/-- The k-th `draw()` of a run (00_scope R18): a FREE VALUE, nothing constrains it (log 6). -/
opaque Config.drawWord : Nat → Word

/-- PRId, COP0 register 15 (10_state R57). -/
def Config.prid : Word := 0x00000002#32

/-- RAM_SIZE (00_scope R10). -/
def Config.ramSize : Nat := 0x200000

/-- ROM_SIZE (00_scope R10). -/
def Config.romSize : Nat := 0x80000

/-- SCRATCH_SIZE (00_scope R10). -/
def Config.scratchSize : Nat := 0x400

/-- Physical base of the boot ROM (20_memory R108). -/
def Config.romBase : Nat := 0x1FC00000

/-- Physical base of the scratchpad (20_memory R105). -/
def Config.scratchBase : Nat := 0x1F800000

/-- Physical base of I_STAT and I_MASK, an 8-byte window (20_memory R106). -/
def Config.irqBase : Nat := 0x1F801070

/-- Physical base of the DMA registers, a 128-byte window (20_memory R107). -/
def Config.dmaBase : Nat := 0x1F801080

/-- The reset PC (10_state R71, 70_reset_and_hazards R561). -/
def Config.resetPc : Word := 0xBFC00000#32

/-- The sentinel's target, the maximum 64-bit cycle (60_exceptions R481). -/
def Config.maxCycle : Nat := 2 ^ 64 - 1

end Sys2Proof
end

