-- ==== Sys2Proof/Syntax.lean ====
section
/-! DEFINITION. The instructions: one constructor for each row of spec/opcode_table.json, with the operand fields the row names
(30_encoding R181). Fields an instruction does not use are ignored by decode and are no operands (30_encoding R197). -/

namespace Sys2Proof

/-- One instruction. Operands stand in the order of the rules' own `Operands` lines (30_encoding R200). The docstring of a
constructor names its rule; the reserved rows and the REGIMM alias rows carry the number that selects them. -/
inductive Instr where
  /-- SLL (R248). -/
  | sll (rd : Reg) (rt : Reg) (shamt : BitVec 5)
  /-- SRL (R249). -/
  | srl (rd : Reg) (rt : Reg) (shamt : BitVec 5)
  /-- SRA (R250). -/
  | sra (rd : Reg) (rt : Reg) (shamt : BitVec 5)
  /-- SLLV (R251). -/
  | sllv (rd : Reg) (rt : Reg) (rs : Reg)
  /-- SRLV (R252). -/
  | srlv (rd : Reg) (rt : Reg) (rs : Reg)
  /-- SRAV (R253). -/
  | srav (rd : Reg) (rt : Reg) (rs : Reg)
  /-- JR (R314). -/
  | jr (rs : Reg)
  /-- JALR (R316). -/
  | jalr (rd : Reg) (rs : Reg)
  /-- SYSCALL (R390). -/
  | syscall (code : BitVec 20)
  /-- BREAK (R391). -/
  | brk (code : BitVec 20)
  /-- MFHI (R294). -/
  | mfhi (rd : Reg)
  /-- MTHI (R296). -/
  | mthi (rs : Reg)
  /-- MFLO (R295). -/
  | mflo (rd : Reg)
  /-- MTLO (R297). -/
  | mtlo (rs : Reg)
  /-- MULT (R290). -/
  | mult (rs : Reg) (rt : Reg)
  /-- MULTU (R291). -/
  | multu (rs : Reg) (rt : Reg)
  /-- DIV (R292). -/
  | div (rs : Reg) (rt : Reg)
  /-- DIVU (R293). -/
  | divu (rs : Reg) (rt : Reg)
  /-- ADD (R230). -/
  | add (rd : Reg) (rs : Reg) (rt : Reg)
  /-- ADDU (R231). -/
  | addu (rd : Reg) (rs : Reg) (rt : Reg)
  /-- SUB (R232). -/
  | sub (rd : Reg) (rs : Reg) (rt : Reg)
  /-- SUBU (R233). -/
  | subu (rd : Reg) (rs : Reg) (rt : Reg)
  /-- AND (R240). -/
  | and (rd : Reg) (rs : Reg) (rt : Reg)
  /-- OR (R241). -/
  | or (rd : Reg) (rs : Reg) (rt : Reg)
  /-- XOR (R242). -/
  | xor (rd : Reg) (rs : Reg) (rt : Reg)
  /-- NOR (R243). -/
  | nor (rd : Reg) (rs : Reg) (rt : Reg)
  /-- SLT (R236). -/
  | slt (rd : Reg) (rs : Reg) (rt : Reg)
  /-- SLTU (R237). -/
  | sltu (rd : Reg) (rs : Reg) (rt : Reg)
  /-- BLTZ (R321). -/
  | bltz (rs : Reg) (imm : Half)
  /-- BGEZ (R322). -/
  | bgez (rs : Reg) (imm : Half)
  /-- BLTZAL (R323). -/
  | bltzal (rs : Reg) (imm : Half)
  /-- BGEZAL (R324). -/
  | bgezal (rs : Reg) (imm : Half)
  /-- BLTZ (REGIMM alias rt=0x02) (R192). -/
  | bltzRt02 (rs : Reg) (imm : Half)
  /-- BGEZ (REGIMM alias rt=0x03) (R192). -/
  | bgezRt03 (rs : Reg) (imm : Half)
  /-- BLTZ (REGIMM alias rt=0x04) (R192). -/
  | bltzRt04 (rs : Reg) (imm : Half)
  /-- BGEZ (REGIMM alias rt=0x05) (R192). -/
  | bgezRt05 (rs : Reg) (imm : Half)
  /-- BLTZ (REGIMM alias rt=0x06) (R192). -/
  | bltzRt06 (rs : Reg) (imm : Half)
  /-- BGEZ (REGIMM alias rt=0x07) (R192). -/
  | bgezRt07 (rs : Reg) (imm : Half)
  /-- BLTZ (REGIMM alias rt=0x08) (R192). -/
  | bltzRt08 (rs : Reg) (imm : Half)
  /-- BGEZ (REGIMM alias rt=0x09) (R192). -/
  | bgezRt09 (rs : Reg) (imm : Half)
  /-- BLTZ (REGIMM alias rt=0x0A) (R192). -/
  | bltzRt0A (rs : Reg) (imm : Half)
  /-- BGEZ (REGIMM alias rt=0x0B) (R192). -/
  | bgezRt0B (rs : Reg) (imm : Half)
  /-- BLTZ (REGIMM alias rt=0x0C) (R192). -/
  | bltzRt0C (rs : Reg) (imm : Half)
  /-- BGEZ (REGIMM alias rt=0x0D) (R192). -/
  | bgezRt0D (rs : Reg) (imm : Half)
  /-- BLTZ (REGIMM alias rt=0x0E) (R192). -/
  | bltzRt0E (rs : Reg) (imm : Half)
  /-- BGEZ (REGIMM alias rt=0x0F) (R192). -/
  | bgezRt0F (rs : Reg) (imm : Half)
  /-- BLTZ (REGIMM alias rt=0x12) (R192). -/
  | bltzRt12 (rs : Reg) (imm : Half)
  /-- BGEZ (REGIMM alias rt=0x13) (R192). -/
  | bgezRt13 (rs : Reg) (imm : Half)
  /-- BLTZ (REGIMM alias rt=0x14) (R192). -/
  | bltzRt14 (rs : Reg) (imm : Half)
  /-- BGEZ (REGIMM alias rt=0x15) (R192). -/
  | bgezRt15 (rs : Reg) (imm : Half)
  /-- BLTZ (REGIMM alias rt=0x16) (R192). -/
  | bltzRt16 (rs : Reg) (imm : Half)
  /-- BGEZ (REGIMM alias rt=0x17) (R192). -/
  | bgezRt17 (rs : Reg) (imm : Half)
  /-- BLTZ (REGIMM alias rt=0x18) (R192). -/
  | bltzRt18 (rs : Reg) (imm : Half)
  /-- BGEZ (REGIMM alias rt=0x19) (R192). -/
  | bgezRt19 (rs : Reg) (imm : Half)
  /-- BLTZ (REGIMM alias rt=0x1A) (R192). -/
  | bltzRt1A (rs : Reg) (imm : Half)
  /-- BGEZ (REGIMM alias rt=0x1B) (R192). -/
  | bgezRt1B (rs : Reg) (imm : Half)
  /-- BLTZ (REGIMM alias rt=0x1C) (R192). -/
  | bltzRt1C (rs : Reg) (imm : Half)
  /-- BGEZ (REGIMM alias rt=0x1D) (R192). -/
  | bgezRt1D (rs : Reg) (imm : Half)
  /-- BLTZ (REGIMM alias rt=0x1E) (R192). -/
  | bltzRt1E (rs : Reg) (imm : Half)
  /-- BGEZ (REGIMM alias rt=0x1F) (R192). -/
  | bgezRt1F (rs : Reg) (imm : Half)
  /-- J (R313). -/
  | j (target : BitVec 26)
  /-- JAL (R315). -/
  | jal (target : BitVec 26)
  /-- BEQ (R317). -/
  | beq (rs : Reg) (rt : Reg) (imm : Half)
  /-- BNE (R318). -/
  | bne (rs : Reg) (rt : Reg) (imm : Half)
  /-- BLEZ (R319). -/
  | blez (rs : Reg) (imm : Half)
  /-- BGTZ (R320). -/
  | bgtz (rs : Reg) (imm : Half)
  /-- ADDI (R234). -/
  | addi (rt : Reg) (rs : Reg) (imm : Half)
  /-- ADDIU (R235). -/
  | addiu (rt : Reg) (rs : Reg) (imm : Half)
  /-- SLTI (R238). -/
  | slti (rt : Reg) (rs : Reg) (imm : Half)
  /-- SLTIU (R239). -/
  | sltiu (rt : Reg) (rs : Reg) (imm : Half)
  /-- ANDI (R244). -/
  | andi (rt : Reg) (rs : Reg) (imm : Half)
  /-- ORI (R245). -/
  | ori (rt : Reg) (rs : Reg) (imm : Half)
  /-- XORI (R246). -/
  | xori (rt : Reg) (rs : Reg) (imm : Half)
  /-- LUI (R247). -/
  | lui (rt : Reg) (imm : Half)
  /-- LB (R354). -/
  | lb (rt : Reg) (rs : Reg) (imm : Half)
  /-- LH (R356). -/
  | lh (rt : Reg) (rs : Reg) (imm : Half)
  /-- LWL (R361). -/
  | lwl (rt : Reg) (rs : Reg) (imm : Half)
  /-- LW (R359). -/
  | lw (rt : Reg) (rs : Reg) (imm : Half)
  /-- LBU (R355). -/
  | lbu (rt : Reg) (rs : Reg) (imm : Half)
  /-- LHU (R358). -/
  | lhu (rt : Reg) (rs : Reg) (imm : Half)
  /-- LWR (R362). -/
  | lwr (rt : Reg) (rs : Reg) (imm : Half)
  /-- SB (R363). -/
  | sb (rt : Reg) (rs : Reg) (imm : Half)
  /-- SH (R365). -/
  | sh (rt : Reg) (rs : Reg) (imm : Half)
  /-- SWL (R367). -/
  | swl (rt : Reg) (rs : Reg) (imm : Half)
  /-- SW (R366). -/
  | sw (rt : Reg) (rs : Reg) (imm : Half)
  /-- SWR (R368). -/
  | swr (rt : Reg) (rs : Reg) (imm : Half)
  /-- MFC0 (R392). -/
  | mfc0 (rt : Reg) (rd : Reg)
  /-- MTC0 (R393). -/
  | mtc0 (rt : Reg) (rd : Reg)
  /-- RFE (R394). -/
  | rfe
  /-- COP2 (geometry coprocessor group) (R397). -/
  | cop2 (cofun : BitVec 26)
  /-- LWC2 (R397). -/
  | lwc2 (rt : Reg) (rs : Reg) (imm : Half)
  /-- SWC2 (R397). -/
  | swc2 (rt : Reg) (rs : Reg) (imm : Half)
  /-- RESERVED op=0x11 (COP1) (R398). -/
  | resOp11
  /-- RESERVED op=0x13 (COP3) (R398). -/
  | resOp13
  /-- RESERVED op=0x14 (R398). -/
  | resOp14
  /-- RESERVED op=0x15 (R398). -/
  | resOp15
  /-- RESERVED op=0x16 (R398). -/
  | resOp16
  /-- RESERVED op=0x17 (R398). -/
  | resOp17
  /-- RESERVED op=0x18 (R398). -/
  | resOp18
  /-- RESERVED op=0x19 (R398). -/
  | resOp19
  /-- RESERVED op=0x1A (R398). -/
  | resOp1A
  /-- RESERVED op=0x1B (R398). -/
  | resOp1B
  /-- RESERVED op=0x1C (R398). -/
  | resOp1C
  /-- RESERVED op=0x1D (R398). -/
  | resOp1D
  /-- RESERVED op=0x1E (R398). -/
  | resOp1E
  /-- RESERVED op=0x1F (R398). -/
  | resOp1F
  /-- RESERVED op=0x27 (R398). -/
  | resOp27
  /-- RESERVED op=0x2C (R398). -/
  | resOp2C
  /-- RESERVED op=0x2D (R398). -/
  | resOp2D
  /-- RESERVED op=0x2F (R398). -/
  | resOp2F
  /-- RESERVED op=0x30 (LWC0) (R398). -/
  | resOp30
  /-- RESERVED op=0x31 (LWC1) (R398). -/
  | resOp31
  /-- RESERVED op=0x33 (LWC3) (R398). -/
  | resOp33
  /-- RESERVED op=0x34 (R398). -/
  | resOp34
  /-- RESERVED op=0x35 (R398). -/
  | resOp35
  /-- RESERVED op=0x36 (R398). -/
  | resOp36
  /-- RESERVED op=0x37 (R398). -/
  | resOp37
  /-- RESERVED op=0x38 (SWC0) (R398). -/
  | resOp38
  /-- RESERVED op=0x39 (SWC1) (R398). -/
  | resOp39
  /-- RESERVED op=0x3B (SWC3) (R398). -/
  | resOp3B
  /-- RESERVED op=0x3C (R398). -/
  | resOp3C
  /-- RESERVED op=0x3D (R398). -/
  | resOp3D
  /-- RESERVED op=0x3E (R398). -/
  | resOp3E
  /-- RESERVED op=0x3F (R398). -/
  | resOp3F
  /-- RESERVED SPECIAL funct=0x01 (R398). -/
  | resFunct01
  /-- RESERVED SPECIAL funct=0x05 (R398). -/
  | resFunct05
  /-- RESERVED SPECIAL funct=0x0A (R398). -/
  | resFunct0A
  /-- RESERVED SPECIAL funct=0x0B (R398). -/
  | resFunct0B
  /-- RESERVED SPECIAL funct=0x0E (R398). -/
  | resFunct0E
  /-- RESERVED SPECIAL funct=0x0F (R398). -/
  | resFunct0F
  /-- RESERVED SPECIAL funct=0x14 (R398). -/
  | resFunct14
  /-- RESERVED SPECIAL funct=0x15 (R398). -/
  | resFunct15
  /-- RESERVED SPECIAL funct=0x16 (R398). -/
  | resFunct16
  /-- RESERVED SPECIAL funct=0x17 (R398). -/
  | resFunct17
  /-- RESERVED SPECIAL funct=0x1C (R398). -/
  | resFunct1C
  /-- RESERVED SPECIAL funct=0x1D (R398). -/
  | resFunct1D
  /-- RESERVED SPECIAL funct=0x1E (R398). -/
  | resFunct1E
  /-- RESERVED SPECIAL funct=0x1F (R398). -/
  | resFunct1F
  /-- RESERVED SPECIAL funct=0x28 (R398). -/
  | resFunct28
  /-- RESERVED SPECIAL funct=0x29 (R398). -/
  | resFunct29
  /-- RESERVED SPECIAL funct=0x2C (R398). -/
  | resFunct2C
  /-- RESERVED SPECIAL funct=0x2D (R398). -/
  | resFunct2D
  /-- RESERVED SPECIAL funct=0x2E (R398). -/
  | resFunct2E
  /-- RESERVED SPECIAL funct=0x2F (R398). -/
  | resFunct2F
  /-- RESERVED SPECIAL funct=0x30 (R398). -/
  | resFunct30
  /-- RESERVED SPECIAL funct=0x31 (R398). -/
  | resFunct31
  /-- RESERVED SPECIAL funct=0x32 (R398). -/
  | resFunct32
  /-- RESERVED SPECIAL funct=0x33 (R398). -/
  | resFunct33
  /-- RESERVED SPECIAL funct=0x34 (R398). -/
  | resFunct34
  /-- RESERVED SPECIAL funct=0x35 (R398). -/
  | resFunct35
  /-- RESERVED SPECIAL funct=0x36 (R398). -/
  | resFunct36
  /-- RESERVED SPECIAL funct=0x37 (R398). -/
  | resFunct37
  /-- RESERVED SPECIAL funct=0x38 (R398). -/
  | resFunct38
  /-- RESERVED SPECIAL funct=0x39 (R398). -/
  | resFunct39
  /-- RESERVED SPECIAL funct=0x3A (R398). -/
  | resFunct3A
  /-- RESERVED SPECIAL funct=0x3B (R398). -/
  | resFunct3B
  /-- RESERVED SPECIAL funct=0x3C (R398). -/
  | resFunct3C
  /-- RESERVED SPECIAL funct=0x3D (R398). -/
  | resFunct3D
  /-- RESERVED SPECIAL funct=0x3E (R398). -/
  | resFunct3E
  /-- RESERVED SPECIAL funct=0x3F (R398). -/
  | resFunct3F
  /-- RESERVED COP0 rs=0x01 (R398). -/
  | resCop0Rs01
  /-- RESERVED COP0 rs=0x02 (R398). -/
  | resCop0Rs02
  /-- RESERVED COP0 rs=0x03 (R398). -/
  | resCop0Rs03
  /-- RESERVED COP0 rs=0x05 (R398). -/
  | resCop0Rs05
  /-- RESERVED COP0 rs=0x06 (R398). -/
  | resCop0Rs06
  /-- RESERVED COP0 rs=0x07 (R398). -/
  | resCop0Rs07
  /-- RESERVED COP0 rs=0x08 (R398). -/
  | resCop0Rs08
  /-- RESERVED COP0 rs=0x09 (R398). -/
  | resCop0Rs09
  /-- RESERVED COP0 rs=0x0A (R398). -/
  | resCop0Rs0A
  /-- RESERVED COP0 rs=0x0B (R398). -/
  | resCop0Rs0B
  /-- RESERVED COP0 rs=0x0C (R398). -/
  | resCop0Rs0C
  /-- RESERVED COP0 rs=0x0D (R398). -/
  | resCop0Rs0D
  /-- RESERVED COP0 rs=0x0E (R398). -/
  | resCop0Rs0E
  /-- RESERVED COP0 rs=0x0F (R398). -/
  | resCop0Rs0F
  /-- RESERVED COP0 CO funct=0x00 (R398). -/
  | resCop0Co00
  /-- RESERVED COP0 CO funct=0x01 (R398). -/
  | resCop0Co01
  /-- RESERVED COP0 CO funct=0x02 (R398). -/
  | resCop0Co02
  /-- RESERVED COP0 CO funct=0x03 (R398). -/
  | resCop0Co03
  /-- RESERVED COP0 CO funct=0x04 (R398). -/
  | resCop0Co04
  /-- RESERVED COP0 CO funct=0x05 (R398). -/
  | resCop0Co05
  /-- RESERVED COP0 CO funct=0x06 (R398). -/
  | resCop0Co06
  /-- RESERVED COP0 CO funct=0x07 (R398). -/
  | resCop0Co07
  /-- RESERVED COP0 CO funct=0x08 (R398). -/
  | resCop0Co08
  /-- RESERVED COP0 CO funct=0x09 (R398). -/
  | resCop0Co09
  /-- RESERVED COP0 CO funct=0x0A (R398). -/
  | resCop0Co0A
  /-- RESERVED COP0 CO funct=0x0B (R398). -/
  | resCop0Co0B
  /-- RESERVED COP0 CO funct=0x0C (R398). -/
  | resCop0Co0C
  /-- RESERVED COP0 CO funct=0x0D (R398). -/
  | resCop0Co0D
  /-- RESERVED COP0 CO funct=0x0E (R398). -/
  | resCop0Co0E
  /-- RESERVED COP0 CO funct=0x0F (R398). -/
  | resCop0Co0F
  /-- RESERVED COP0 CO funct=0x11 (R398). -/
  | resCop0Co11
  /-- RESERVED COP0 CO funct=0x12 (R398). -/
  | resCop0Co12
  /-- RESERVED COP0 CO funct=0x13 (R398). -/
  | resCop0Co13
  /-- RESERVED COP0 CO funct=0x14 (R398). -/
  | resCop0Co14
  /-- RESERVED COP0 CO funct=0x15 (R398). -/
  | resCop0Co15
  /-- RESERVED COP0 CO funct=0x16 (R398). -/
  | resCop0Co16
  /-- RESERVED COP0 CO funct=0x17 (R398). -/
  | resCop0Co17
  /-- RESERVED COP0 CO funct=0x18 (R398). -/
  | resCop0Co18
  /-- RESERVED COP0 CO funct=0x19 (R398). -/
  | resCop0Co19
  /-- RESERVED COP0 CO funct=0x1A (R398). -/
  | resCop0Co1A
  /-- RESERVED COP0 CO funct=0x1B (R398). -/
  | resCop0Co1B
  /-- RESERVED COP0 CO funct=0x1C (R398). -/
  | resCop0Co1C
  /-- RESERVED COP0 CO funct=0x1D (R398). -/
  | resCop0Co1D
  /-- RESERVED COP0 CO funct=0x1E (R398). -/
  | resCop0Co1E
  /-- RESERVED COP0 CO funct=0x1F (R398). -/
  | resCop0Co1F
  /-- RESERVED COP0 CO funct=0x20 (R398). -/
  | resCop0Co20
  /-- RESERVED COP0 CO funct=0x21 (R398). -/
  | resCop0Co21
  /-- RESERVED COP0 CO funct=0x22 (R398). -/
  | resCop0Co22
  /-- RESERVED COP0 CO funct=0x23 (R398). -/
  | resCop0Co23
  /-- RESERVED COP0 CO funct=0x24 (R398). -/
  | resCop0Co24
  /-- RESERVED COP0 CO funct=0x25 (R398). -/
  | resCop0Co25
  /-- RESERVED COP0 CO funct=0x26 (R398). -/
  | resCop0Co26
  /-- RESERVED COP0 CO funct=0x27 (R398). -/
  | resCop0Co27
  /-- RESERVED COP0 CO funct=0x28 (R398). -/
  | resCop0Co28
  /-- RESERVED COP0 CO funct=0x29 (R398). -/
  | resCop0Co29
  /-- RESERVED COP0 CO funct=0x2A (R398). -/
  | resCop0Co2A
  /-- RESERVED COP0 CO funct=0x2B (R398). -/
  | resCop0Co2B
  /-- RESERVED COP0 CO funct=0x2C (R398). -/
  | resCop0Co2C
  /-- RESERVED COP0 CO funct=0x2D (R398). -/
  | resCop0Co2D
  /-- RESERVED COP0 CO funct=0x2E (R398). -/
  | resCop0Co2E
  /-- RESERVED COP0 CO funct=0x2F (R398). -/
  | resCop0Co2F
  /-- RESERVED COP0 CO funct=0x30 (R398). -/
  | resCop0Co30
  /-- RESERVED COP0 CO funct=0x31 (R398). -/
  | resCop0Co31
  /-- RESERVED COP0 CO funct=0x32 (R398). -/
  | resCop0Co32
  /-- RESERVED COP0 CO funct=0x33 (R398). -/
  | resCop0Co33
  /-- RESERVED COP0 CO funct=0x34 (R398). -/
  | resCop0Co34
  /-- RESERVED COP0 CO funct=0x35 (R398). -/
  | resCop0Co35
  /-- RESERVED COP0 CO funct=0x36 (R398). -/
  | resCop0Co36
  /-- RESERVED COP0 CO funct=0x37 (R398). -/
  | resCop0Co37
  /-- RESERVED COP0 CO funct=0x38 (R398). -/
  | resCop0Co38
  /-- RESERVED COP0 CO funct=0x39 (R398). -/
  | resCop0Co39
  /-- RESERVED COP0 CO funct=0x3A (R398). -/
  | resCop0Co3A
  /-- RESERVED COP0 CO funct=0x3B (R398). -/
  | resCop0Co3B
  /-- RESERVED COP0 CO funct=0x3C (R398). -/
  | resCop0Co3C
  /-- RESERVED COP0 CO funct=0x3D (R398). -/
  | resCop0Co3D
  /-- RESERVED COP0 CO funct=0x3E (R398). -/
  | resCop0Co3E
  /-- RESERVED COP0 CO funct=0x3F (R398). -/
  | resCop0Co3F
  deriving DecidableEq, Repr

end Sys2Proof
end

