-- ==== Sys2Proof/WellFormed.lean ====
section
/-! DEFINITION. When an instruction, and when a configuration, is well formed. -/

namespace Sys2Proof

/-- An instruction is well formed when its operands fit their fields. Every operand has the type of its field
(30_encoding R181), so there is nothing left to check: every term of `Instr` is the reading of some word (30_encoding R199). -/
def Instr.wf (_ : Instr) : Bool := true

/-- Two ranges of addresses, each a base and a size, have no address in common. -/
def rangesApart (base₁ size₁ base₂ size₂ : Nat) : Bool :=
  base₁ + size₁ ≤ base₂ || base₂ + size₂ ≤ base₁

/-- A range of EXTERNAL_RANGES overlaps none of the regions of 20_memory R104 to R108. -/
def ExtRange.apartFromCore (ramWindow : Nat) (r : ExtRange) : Bool :=
  rangesApart r.base r.size 0 ramWindow &&
  rangesApart r.base r.size Config.scratchBase Config.scratchSize &&
  rangesApart r.base r.size Config.irqBase 8 &&
  rangesApart r.base r.size Config.dmaBase 0x80 &&
  rangesApart r.base r.size Config.romBase Config.romSize

/-- The ranges of a list are disjoint from one another (20_memory R110). -/
def ExtRange.disjoint : List ExtRange → Bool
  | [] => true
  | r :: rs => rs.all (fun q => rangesApart r.base r.size q.base q.size) && ExtRange.disjoint rs

/-- What the spec asks of the parameters of 00_scope R11: an instruction costs at least one cycle (92_eei_decisions D28), the
RAM window ends below the other regions (20_memory R111: the regions are disjoint), and the external ranges are disjoint from
one another and from the core's own regions (20_memory R110). DESIGN CHOICE (log 5): no least RAM_WINDOW is asked, the spec states
none; under a window below 0x200000 the RAM at and above it is out of the CPU's reach, and 20_memory R145 holds below it alone. -/
def Config.wf (c : Config) : Bool :=
  1 ≤ c.cyclesPerInstr &&
  c.ramWindow ≤ Config.scratchBase &&
  c.externalRanges.all (ExtRange.apartFromCore c.ramWindow) &&
  ExtRange.disjoint c.externalRanges

end Sys2Proof
end

