-- ==== Sys2Proof/Decode.lean ====
section
/-! DEFINITION. Decode and encode (30_encoding). `decode` reads any 32-bit word (R199: decode is total); `decodeBytes` reads the
four bytes of a fetch and rejects by name what is no whole word; `encode` writes the word of an instruction from the same maps. -/

namespace Sys2Proof

/-! ### The fields of a word (30_encoding R181) -/

/-- `op`, bits 31:26. -/
def opOf (w : Word) : BitVec 6 := w.extractLsb' 26 6
/-- `rs`, bits 25:21. -/
def rsOf (w : Word) : Reg := w.extractLsb' 21 5
/-- `rt`, bits 20:16. -/
def rtOf (w : Word) : Reg := w.extractLsb' 16 5
/-- `rd`, bits 15:11. -/
def rdOf (w : Word) : Reg := w.extractLsb' 11 5
/-- `shamt`, bits 10:6. -/
def shamtOf (w : Word) : BitVec 5 := w.extractLsb' 6 5
/-- `funct`, bits 5:0. -/
def functOf (w : Word) : BitVec 6 := w.extractLsb' 0 6
/-- `imm`, bits 15:0. -/
def immOf (w : Word) : Half := w.extractLsb' 0 16
/-- `target`, bits 25:0 (also the whole operand of a COP2 word). -/
def targetOf (w : Word) : BitVec 26 := w.extractLsb' 0 26
/-- `code`, bits 25:6. -/
def codeOf (w : Word) : BitVec 20 := w.extractLsb' 6 20
/-- `co`, bit 25. -/
def coOf (w : Word) : Bool := w.getLsbD 25

/-! ### Decode, map by map -/

/-- `op = 0`: the SPECIAL function map (30_encoding R191), by `funct`. -/
def decodeSpecial (w : Word) : Instr :=
  match functOf w with
  | 0x00#6 => .sll (rdOf w) (rtOf w) (shamtOf w)
  | 0x01#6 => .resFunct01
  | 0x02#6 => .srl (rdOf w) (rtOf w) (shamtOf w)
  | 0x03#6 => .sra (rdOf w) (rtOf w) (shamtOf w)
  | 0x04#6 => .sllv (rdOf w) (rtOf w) (rsOf w)
  | 0x05#6 => .resFunct05
  | 0x06#6 => .srlv (rdOf w) (rtOf w) (rsOf w)
  | 0x07#6 => .srav (rdOf w) (rtOf w) (rsOf w)
  | 0x08#6 => .jr (rsOf w)
  | 0x09#6 => .jalr (rdOf w) (rsOf w)
  | 0x0A#6 => .resFunct0A
  | 0x0B#6 => .resFunct0B
  | 0x0C#6 => .syscall (codeOf w)
  | 0x0D#6 => .brk (codeOf w)
  | 0x0E#6 => .resFunct0E
  | 0x0F#6 => .resFunct0F
  | 0x10#6 => .mfhi (rdOf w)
  | 0x11#6 => .mthi (rsOf w)
  | 0x12#6 => .mflo (rdOf w)
  | 0x13#6 => .mtlo (rsOf w)
  | 0x14#6 => .resFunct14
  | 0x15#6 => .resFunct15
  | 0x16#6 => .resFunct16
  | 0x17#6 => .resFunct17
  | 0x18#6 => .mult (rsOf w) (rtOf w)
  | 0x19#6 => .multu (rsOf w) (rtOf w)
  | 0x1A#6 => .div (rsOf w) (rtOf w)
  | 0x1B#6 => .divu (rsOf w) (rtOf w)
  | 0x1C#6 => .resFunct1C
  | 0x1D#6 => .resFunct1D
  | 0x1E#6 => .resFunct1E
  | 0x1F#6 => .resFunct1F
  | 0x20#6 => .add (rdOf w) (rsOf w) (rtOf w)
  | 0x21#6 => .addu (rdOf w) (rsOf w) (rtOf w)
  | 0x22#6 => .sub (rdOf w) (rsOf w) (rtOf w)
  | 0x23#6 => .subu (rdOf w) (rsOf w) (rtOf w)
  | 0x24#6 => .and (rdOf w) (rsOf w) (rtOf w)
  | 0x25#6 => .or (rdOf w) (rsOf w) (rtOf w)
  | 0x26#6 => .xor (rdOf w) (rsOf w) (rtOf w)
  | 0x27#6 => .nor (rdOf w) (rsOf w) (rtOf w)
  | 0x28#6 => .resFunct28
  | 0x29#6 => .resFunct29
  | 0x2A#6 => .slt (rdOf w) (rsOf w) (rtOf w)
  | 0x2B#6 => .sltu (rdOf w) (rsOf w) (rtOf w)
  | 0x2C#6 => .resFunct2C
  | 0x2D#6 => .resFunct2D
  | 0x2E#6 => .resFunct2E
  | 0x2F#6 => .resFunct2F
  | 0x30#6 => .resFunct30
  | 0x31#6 => .resFunct31
  | 0x32#6 => .resFunct32
  | 0x33#6 => .resFunct33
  | 0x34#6 => .resFunct34
  | 0x35#6 => .resFunct35
  | 0x36#6 => .resFunct36
  | 0x37#6 => .resFunct37
  | 0x38#6 => .resFunct38
  | 0x39#6 => .resFunct39
  | 0x3A#6 => .resFunct3A
  | 0x3B#6 => .resFunct3B
  | 0x3C#6 => .resFunct3C
  | 0x3D#6 => .resFunct3D
  | 0x3E#6 => .resFunct3E
  | _ => .resFunct3F

/-- `op = 1`: the REGIMM map (30_encoding R192), by `rt`; every value decodes. -/
def decodeRegimm (w : Word) : Instr :=
  match rtOf w with
  | 0x00#5 => .bltz (rsOf w) (immOf w)
  | 0x01#5 => .bgez (rsOf w) (immOf w)
  | 0x02#5 => .bltzRt02 (rsOf w) (immOf w)
  | 0x03#5 => .bgezRt03 (rsOf w) (immOf w)
  | 0x04#5 => .bltzRt04 (rsOf w) (immOf w)
  | 0x05#5 => .bgezRt05 (rsOf w) (immOf w)
  | 0x06#5 => .bltzRt06 (rsOf w) (immOf w)
  | 0x07#5 => .bgezRt07 (rsOf w) (immOf w)
  | 0x08#5 => .bltzRt08 (rsOf w) (immOf w)
  | 0x09#5 => .bgezRt09 (rsOf w) (immOf w)
  | 0x0A#5 => .bltzRt0A (rsOf w) (immOf w)
  | 0x0B#5 => .bgezRt0B (rsOf w) (immOf w)
  | 0x0C#5 => .bltzRt0C (rsOf w) (immOf w)
  | 0x0D#5 => .bgezRt0D (rsOf w) (immOf w)
  | 0x0E#5 => .bltzRt0E (rsOf w) (immOf w)
  | 0x0F#5 => .bgezRt0F (rsOf w) (immOf w)
  | 0x10#5 => .bltzal (rsOf w) (immOf w)
  | 0x11#5 => .bgezal (rsOf w) (immOf w)
  | 0x12#5 => .bltzRt12 (rsOf w) (immOf w)
  | 0x13#5 => .bgezRt13 (rsOf w) (immOf w)
  | 0x14#5 => .bltzRt14 (rsOf w) (immOf w)
  | 0x15#5 => .bgezRt15 (rsOf w) (immOf w)
  | 0x16#5 => .bltzRt16 (rsOf w) (immOf w)
  | 0x17#5 => .bgezRt17 (rsOf w) (immOf w)
  | 0x18#5 => .bltzRt18 (rsOf w) (immOf w)
  | 0x19#5 => .bgezRt19 (rsOf w) (immOf w)
  | 0x1A#5 => .bltzRt1A (rsOf w) (immOf w)
  | 0x1B#5 => .bgezRt1B (rsOf w) (immOf w)
  | 0x1C#5 => .bltzRt1C (rsOf w) (immOf w)
  | 0x1D#5 => .bgezRt1D (rsOf w) (immOf w)
  | 0x1E#5 => .bltzRt1E (rsOf w) (immOf w)
  | _ => .bgezRt1F (rsOf w) (immOf w)

/-- `op = 0x10` with bit 25 set: the COP0 operations (30_encoding R193), by `funct`; only 0x10 is RFE. -/
def decodeCop0Co (w : Word) : Instr :=
  match functOf w with
  | 0x00#6 => .resCop0Co00
  | 0x01#6 => .resCop0Co01
  | 0x02#6 => .resCop0Co02
  | 0x03#6 => .resCop0Co03
  | 0x04#6 => .resCop0Co04
  | 0x05#6 => .resCop0Co05
  | 0x06#6 => .resCop0Co06
  | 0x07#6 => .resCop0Co07
  | 0x08#6 => .resCop0Co08
  | 0x09#6 => .resCop0Co09
  | 0x0A#6 => .resCop0Co0A
  | 0x0B#6 => .resCop0Co0B
  | 0x0C#6 => .resCop0Co0C
  | 0x0D#6 => .resCop0Co0D
  | 0x0E#6 => .resCop0Co0E
  | 0x0F#6 => .resCop0Co0F
  | 0x10#6 => .rfe
  | 0x11#6 => .resCop0Co11
  | 0x12#6 => .resCop0Co12
  | 0x13#6 => .resCop0Co13
  | 0x14#6 => .resCop0Co14
  | 0x15#6 => .resCop0Co15
  | 0x16#6 => .resCop0Co16
  | 0x17#6 => .resCop0Co17
  | 0x18#6 => .resCop0Co18
  | 0x19#6 => .resCop0Co19
  | 0x1A#6 => .resCop0Co1A
  | 0x1B#6 => .resCop0Co1B
  | 0x1C#6 => .resCop0Co1C
  | 0x1D#6 => .resCop0Co1D
  | 0x1E#6 => .resCop0Co1E
  | 0x1F#6 => .resCop0Co1F
  | 0x20#6 => .resCop0Co20
  | 0x21#6 => .resCop0Co21
  | 0x22#6 => .resCop0Co22
  | 0x23#6 => .resCop0Co23
  | 0x24#6 => .resCop0Co24
  | 0x25#6 => .resCop0Co25
  | 0x26#6 => .resCop0Co26
  | 0x27#6 => .resCop0Co27
  | 0x28#6 => .resCop0Co28
  | 0x29#6 => .resCop0Co29
  | 0x2A#6 => .resCop0Co2A
  | 0x2B#6 => .resCop0Co2B
  | 0x2C#6 => .resCop0Co2C
  | 0x2D#6 => .resCop0Co2D
  | 0x2E#6 => .resCop0Co2E
  | 0x2F#6 => .resCop0Co2F
  | 0x30#6 => .resCop0Co30
  | 0x31#6 => .resCop0Co31
  | 0x32#6 => .resCop0Co32
  | 0x33#6 => .resCop0Co33
  | 0x34#6 => .resCop0Co34
  | 0x35#6 => .resCop0Co35
  | 0x36#6 => .resCop0Co36
  | 0x37#6 => .resCop0Co37
  | 0x38#6 => .resCop0Co38
  | 0x39#6 => .resCop0Co39
  | 0x3A#6 => .resCop0Co3A
  | 0x3B#6 => .resCop0Co3B
  | 0x3C#6 => .resCop0Co3C
  | 0x3D#6 => .resCop0Co3D
  | 0x3E#6 => .resCop0Co3E
  | _ => .resCop0Co3F

/-- `op = 0x10` with bit 25 clear: the COP0 transfers (30_encoding R193), by `rs`. -/
def decodeCop0Rs (w : Word) : Instr :=
  match rsOf w with
  | 0x00#5 => .mfc0 (rtOf w) (rdOf w)
  | 0x01#5 => .resCop0Rs01
  | 0x02#5 => .resCop0Rs02
  | 0x03#5 => .resCop0Rs03
  | 0x04#5 => .mtc0 (rtOf w) (rdOf w)
  | 0x05#5 => .resCop0Rs05
  | 0x06#5 => .resCop0Rs06
  | 0x07#5 => .resCop0Rs07
  | 0x08#5 => .resCop0Rs08
  | 0x09#5 => .resCop0Rs09
  | 0x0A#5 => .resCop0Rs0A
  | 0x0B#5 => .resCop0Rs0B
  | 0x0C#5 => .resCop0Rs0C
  | 0x0D#5 => .resCop0Rs0D
  | 0x0E#5 => .resCop0Rs0E
  | _ => .resCop0Rs0F

/-- `op = 0x10`: the COP0 map (30_encoding R193). -/
def decodeCop0 (w : Word) : Instr :=
  if coOf w then decodeCop0Co w else decodeCop0Rs w

/-- The primary opcode map (30_encoding R190), by `op`: every word is one instruction, a reserved encoding or a COP2 word (R199). -/
def decode (w : Word) : Instr :=
  match opOf w with
  | 0x00#6 => decodeSpecial w
  | 0x01#6 => decodeRegimm w
  | 0x02#6 => .j (targetOf w)
  | 0x03#6 => .jal (targetOf w)
  | 0x04#6 => .beq (rsOf w) (rtOf w) (immOf w)
  | 0x05#6 => .bne (rsOf w) (rtOf w) (immOf w)
  | 0x06#6 => .blez (rsOf w) (immOf w)
  | 0x07#6 => .bgtz (rsOf w) (immOf w)
  | 0x08#6 => .addi (rtOf w) (rsOf w) (immOf w)
  | 0x09#6 => .addiu (rtOf w) (rsOf w) (immOf w)
  | 0x0A#6 => .slti (rtOf w) (rsOf w) (immOf w)
  | 0x0B#6 => .sltiu (rtOf w) (rsOf w) (immOf w)
  | 0x0C#6 => .andi (rtOf w) (rsOf w) (immOf w)
  | 0x0D#6 => .ori (rtOf w) (rsOf w) (immOf w)
  | 0x0E#6 => .xori (rtOf w) (rsOf w) (immOf w)
  | 0x0F#6 => .lui (rtOf w) (immOf w)
  | 0x10#6 => decodeCop0 w
  | 0x11#6 => .resOp11
  | 0x12#6 => .cop2 (targetOf w)
  | 0x13#6 => .resOp13
  | 0x14#6 => .resOp14
  | 0x15#6 => .resOp15
  | 0x16#6 => .resOp16
  | 0x17#6 => .resOp17
  | 0x18#6 => .resOp18
  | 0x19#6 => .resOp19
  | 0x1A#6 => .resOp1A
  | 0x1B#6 => .resOp1B
  | 0x1C#6 => .resOp1C
  | 0x1D#6 => .resOp1D
  | 0x1E#6 => .resOp1E
  | 0x1F#6 => .resOp1F
  | 0x20#6 => .lb (rtOf w) (rsOf w) (immOf w)
  | 0x21#6 => .lh (rtOf w) (rsOf w) (immOf w)
  | 0x22#6 => .lwl (rtOf w) (rsOf w) (immOf w)
  | 0x23#6 => .lw (rtOf w) (rsOf w) (immOf w)
  | 0x24#6 => .lbu (rtOf w) (rsOf w) (immOf w)
  | 0x25#6 => .lhu (rtOf w) (rsOf w) (immOf w)
  | 0x26#6 => .lwr (rtOf w) (rsOf w) (immOf w)
  | 0x27#6 => .resOp27
  | 0x28#6 => .sb (rtOf w) (rsOf w) (immOf w)
  | 0x29#6 => .sh (rtOf w) (rsOf w) (immOf w)
  | 0x2A#6 => .swl (rtOf w) (rsOf w) (immOf w)
  | 0x2B#6 => .sw (rtOf w) (rsOf w) (immOf w)
  | 0x2C#6 => .resOp2C
  | 0x2D#6 => .resOp2D
  | 0x2E#6 => .swr (rtOf w) (rsOf w) (immOf w)
  | 0x2F#6 => .resOp2F
  | 0x30#6 => .resOp30
  | 0x31#6 => .resOp31
  | 0x32#6 => .lwc2 (rtOf w) (rsOf w) (immOf w)
  | 0x33#6 => .resOp33
  | 0x34#6 => .resOp34
  | 0x35#6 => .resOp35
  | 0x36#6 => .resOp36
  | 0x37#6 => .resOp37
  | 0x38#6 => .resOp38
  | 0x39#6 => .resOp39
  | 0x3A#6 => .swc2 (rtOf w) (rsOf w) (immOf w)
  | 0x3B#6 => .resOp3B
  | 0x3C#6 => .resOp3C
  | 0x3D#6 => .resOp3D
  | 0x3E#6 => .resOp3E
  | _ => .resOp3F

/-- Why bytes are no instruction. -/
inductive DecodeError where
  /-- There are fewer than the four bytes of an instruction (30_encoding R180). -/
  | truncated
  deriving DecidableEq, Repr

/-- Four bytes as a word, the first the least significant (20_memory R101). -/
def wordOfBytes (b0 b1 b2 b3 : Byte) : Word := b3 ++ b2 ++ b1 ++ b0

/-- The instruction at the head of a list of bytes, with the bytes after it (30_encoding R180). -/
def decodeBytes : List Byte → Except DecodeError (Instr × List Byte)
  | b0 :: b1 :: b2 :: b3 :: rest => .ok (decode (wordOfBytes b0 b1 b2 b3), rest)
  | _ => .error .truncated

/-- The k-th byte of a word, byte 0 the least significant (20_memory R101). -/
def byteOfWord (w : Word) (k : Nat) : Byte := w.extractLsb' (8 * k) 8

/-- The four bytes of a word in memory order (20_memory R101). -/
def bytesOfWord (w : Word) : List Byte := [byteOfWord w 0, byteOfWord w 1, byteOfWord w 2, byteOfWord w 3]

/-- The word the opcode table numbers as `nbits` bits of `w`: the bits above `nbits` are zero. -/
def tableWord (nbits w : Nat) : Word := BitVec.ofNat 32 (w % 2 ^ nbits)

/-- The instruction the decoder reads from an instruction whose bits are `w`, as spec/opcode_table.json numbers them: the word
is laid out in memory order and given to `decodeBytes`. -/
def decodeTableWord (nbits w : Nat) : Option Instr :=
  match decodeBytes (bytesOfWord (tableWord nbits w)) with
  | .ok (i, _) => some i
  | .error _ => none

/-! ### Encode -/

/-- The R format (30_encoding R184), with its `op`. -/
def mkR (op : BitVec 6) (rs rt rd : Reg) (shamt : BitVec 5) (funct : BitVec 6) : Word :=
  op ++ rs ++ rt ++ rd ++ shamt ++ funct
/-- The I format (30_encoding R182), also REGIMM's with the condition in `rt` (R185). -/
def mkI (op : BitVec 6) (rs rt : Reg) (imm : Half) : Word := op ++ rs ++ rt ++ imm
/-- The J format (30_encoding R183). -/
def mkJ (op : BitVec 6) (target : BitVec 26) : Word := op ++ target
/-- SYSCALL and BREAK: `op = 0`, the code, and `funct` (30_encoding R184). -/
def mkCode (code : BitVec 20) (funct : BitVec 6) : Word := 0#6 ++ code ++ funct

/-- The word of an instruction; the fields it does not use are written as 0 (30_encoding R197). -/
def encode : Instr → Word
  | .sll rd rt shamt => mkR 0#6 0#5 rt rd shamt 0x00#6
  | .srl rd rt shamt => mkR 0#6 0#5 rt rd shamt 0x02#6
  | .sra rd rt shamt => mkR 0#6 0#5 rt rd shamt 0x03#6
  | .sllv rd rt rs => mkR 0#6 rs rt rd 0#5 0x04#6
  | .srlv rd rt rs => mkR 0#6 rs rt rd 0#5 0x06#6
  | .srav rd rt rs => mkR 0#6 rs rt rd 0#5 0x07#6
  | .jr rs => mkR 0#6 rs 0#5 0#5 0#5 0x08#6
  | .jalr rd rs => mkR 0#6 rs 0#5 rd 0#5 0x09#6
  | .syscall code => mkCode code 0x0C#6
  | .brk code => mkCode code 0x0D#6
  | .mfhi rd => mkR 0#6 0#5 0#5 rd 0#5 0x10#6
  | .mthi rs => mkR 0#6 rs 0#5 0#5 0#5 0x11#6
  | .mflo rd => mkR 0#6 0#5 0#5 rd 0#5 0x12#6
  | .mtlo rs => mkR 0#6 rs 0#5 0#5 0#5 0x13#6
  | .mult rs rt => mkR 0#6 rs rt 0#5 0#5 0x18#6
  | .multu rs rt => mkR 0#6 rs rt 0#5 0#5 0x19#6
  | .div rs rt => mkR 0#6 rs rt 0#5 0#5 0x1A#6
  | .divu rs rt => mkR 0#6 rs rt 0#5 0#5 0x1B#6
  | .add rd rs rt => mkR 0#6 rs rt rd 0#5 0x20#6
  | .addu rd rs rt => mkR 0#6 rs rt rd 0#5 0x21#6
  | .sub rd rs rt => mkR 0#6 rs rt rd 0#5 0x22#6
  | .subu rd rs rt => mkR 0#6 rs rt rd 0#5 0x23#6
  | .and rd rs rt => mkR 0#6 rs rt rd 0#5 0x24#6
  | .or rd rs rt => mkR 0#6 rs rt rd 0#5 0x25#6
  | .xor rd rs rt => mkR 0#6 rs rt rd 0#5 0x26#6
  | .nor rd rs rt => mkR 0#6 rs rt rd 0#5 0x27#6
  | .slt rd rs rt => mkR 0#6 rs rt rd 0#5 0x2A#6
  | .sltu rd rs rt => mkR 0#6 rs rt rd 0#5 0x2B#6
  | .bltz rs imm => mkI 1#6 rs 0x00#5 imm
  | .bgez rs imm => mkI 1#6 rs 0x01#5 imm
  | .bltzal rs imm => mkI 1#6 rs 0x10#5 imm
  | .bgezal rs imm => mkI 1#6 rs 0x11#5 imm
  | .bltzRt02 rs imm => mkI 1#6 rs 0x02#5 imm
  | .bgezRt03 rs imm => mkI 1#6 rs 0x03#5 imm
  | .bltzRt04 rs imm => mkI 1#6 rs 0x04#5 imm
  | .bgezRt05 rs imm => mkI 1#6 rs 0x05#5 imm
  | .bltzRt06 rs imm => mkI 1#6 rs 0x06#5 imm
  | .bgezRt07 rs imm => mkI 1#6 rs 0x07#5 imm
  | .bltzRt08 rs imm => mkI 1#6 rs 0x08#5 imm
  | .bgezRt09 rs imm => mkI 1#6 rs 0x09#5 imm
  | .bltzRt0A rs imm => mkI 1#6 rs 0x0A#5 imm
  | .bgezRt0B rs imm => mkI 1#6 rs 0x0B#5 imm
  | .bltzRt0C rs imm => mkI 1#6 rs 0x0C#5 imm
  | .bgezRt0D rs imm => mkI 1#6 rs 0x0D#5 imm
  | .bltzRt0E rs imm => mkI 1#6 rs 0x0E#5 imm
  | .bgezRt0F rs imm => mkI 1#6 rs 0x0F#5 imm
  | .bltzRt12 rs imm => mkI 1#6 rs 0x12#5 imm
  | .bgezRt13 rs imm => mkI 1#6 rs 0x13#5 imm
  | .bltzRt14 rs imm => mkI 1#6 rs 0x14#5 imm
  | .bgezRt15 rs imm => mkI 1#6 rs 0x15#5 imm
  | .bltzRt16 rs imm => mkI 1#6 rs 0x16#5 imm
  | .bgezRt17 rs imm => mkI 1#6 rs 0x17#5 imm
  | .bltzRt18 rs imm => mkI 1#6 rs 0x18#5 imm
  | .bgezRt19 rs imm => mkI 1#6 rs 0x19#5 imm
  | .bltzRt1A rs imm => mkI 1#6 rs 0x1A#5 imm
  | .bgezRt1B rs imm => mkI 1#6 rs 0x1B#5 imm
  | .bltzRt1C rs imm => mkI 1#6 rs 0x1C#5 imm
  | .bgezRt1D rs imm => mkI 1#6 rs 0x1D#5 imm
  | .bltzRt1E rs imm => mkI 1#6 rs 0x1E#5 imm
  | .bgezRt1F rs imm => mkI 1#6 rs 0x1F#5 imm
  | .j target => mkJ 0x02#6 target
  | .jal target => mkJ 0x03#6 target
  | .beq rs rt imm => mkI 0x04#6 rs rt imm
  | .bne rs rt imm => mkI 0x05#6 rs rt imm
  | .blez rs imm => mkI 0x06#6 rs 0#5 imm
  | .bgtz rs imm => mkI 0x07#6 rs 0#5 imm
  | .addi rt rs imm => mkI 0x08#6 rs rt imm
  | .addiu rt rs imm => mkI 0x09#6 rs rt imm
  | .slti rt rs imm => mkI 0x0A#6 rs rt imm
  | .sltiu rt rs imm => mkI 0x0B#6 rs rt imm
  | .andi rt rs imm => mkI 0x0C#6 rs rt imm
  | .ori rt rs imm => mkI 0x0D#6 rs rt imm
  | .xori rt rs imm => mkI 0x0E#6 rs rt imm
  | .lui rt imm => mkI 0x0F#6 0#5 rt imm
  | .lb rt rs imm => mkI 0x20#6 rs rt imm
  | .lh rt rs imm => mkI 0x21#6 rs rt imm
  | .lwl rt rs imm => mkI 0x22#6 rs rt imm
  | .lw rt rs imm => mkI 0x23#6 rs rt imm
  | .lbu rt rs imm => mkI 0x24#6 rs rt imm
  | .lhu rt rs imm => mkI 0x25#6 rs rt imm
  | .lwr rt rs imm => mkI 0x26#6 rs rt imm
  | .sb rt rs imm => mkI 0x28#6 rs rt imm
  | .sh rt rs imm => mkI 0x29#6 rs rt imm
  | .swl rt rs imm => mkI 0x2A#6 rs rt imm
  | .sw rt rs imm => mkI 0x2B#6 rs rt imm
  | .swr rt rs imm => mkI 0x2E#6 rs rt imm
  | .mfc0 rt rd => mkR 0x10#6 0x00#5 rt rd 0#5 0#6
  | .mtc0 rt rd => mkR 0x10#6 0x04#5 rt rd 0#5 0#6
  | .rfe => mkR 0x10#6 0x10#5 0#5 0#5 0#5 0x10#6
  | .cop2 cofun => mkJ 0x12#6 cofun
  | .lwc2 rt rs imm => mkI 0x32#6 rs rt imm
  | .swc2 rt rs imm => mkI 0x3A#6 rs rt imm
  | .resOp11 => mkI 0x11#6 0#5 0#5 0#16
  | .resOp13 => mkI 0x13#6 0#5 0#5 0#16
  | .resOp14 => mkI 0x14#6 0#5 0#5 0#16
  | .resOp15 => mkI 0x15#6 0#5 0#5 0#16
  | .resOp16 => mkI 0x16#6 0#5 0#5 0#16
  | .resOp17 => mkI 0x17#6 0#5 0#5 0#16
  | .resOp18 => mkI 0x18#6 0#5 0#5 0#16
  | .resOp19 => mkI 0x19#6 0#5 0#5 0#16
  | .resOp1A => mkI 0x1A#6 0#5 0#5 0#16
  | .resOp1B => mkI 0x1B#6 0#5 0#5 0#16
  | .resOp1C => mkI 0x1C#6 0#5 0#5 0#16
  | .resOp1D => mkI 0x1D#6 0#5 0#5 0#16
  | .resOp1E => mkI 0x1E#6 0#5 0#5 0#16
  | .resOp1F => mkI 0x1F#6 0#5 0#5 0#16
  | .resOp27 => mkI 0x27#6 0#5 0#5 0#16
  | .resOp2C => mkI 0x2C#6 0#5 0#5 0#16
  | .resOp2D => mkI 0x2D#6 0#5 0#5 0#16
  | .resOp2F => mkI 0x2F#6 0#5 0#5 0#16
  | .resOp30 => mkI 0x30#6 0#5 0#5 0#16
  | .resOp31 => mkI 0x31#6 0#5 0#5 0#16
  | .resOp33 => mkI 0x33#6 0#5 0#5 0#16
  | .resOp34 => mkI 0x34#6 0#5 0#5 0#16
  | .resOp35 => mkI 0x35#6 0#5 0#5 0#16
  | .resOp36 => mkI 0x36#6 0#5 0#5 0#16
  | .resOp37 => mkI 0x37#6 0#5 0#5 0#16
  | .resOp38 => mkI 0x38#6 0#5 0#5 0#16
  | .resOp39 => mkI 0x39#6 0#5 0#5 0#16
  | .resOp3B => mkI 0x3B#6 0#5 0#5 0#16
  | .resOp3C => mkI 0x3C#6 0#5 0#5 0#16
  | .resOp3D => mkI 0x3D#6 0#5 0#5 0#16
  | .resOp3E => mkI 0x3E#6 0#5 0#5 0#16
  | .resOp3F => mkI 0x3F#6 0#5 0#5 0#16
  | .resFunct01 => mkR 0#6 0#5 0#5 0#5 0#5 0x01#6
  | .resFunct05 => mkR 0#6 0#5 0#5 0#5 0#5 0x05#6
  | .resFunct0A => mkR 0#6 0#5 0#5 0#5 0#5 0x0A#6
  | .resFunct0B => mkR 0#6 0#5 0#5 0#5 0#5 0x0B#6
  | .resFunct0E => mkR 0#6 0#5 0#5 0#5 0#5 0x0E#6
  | .resFunct0F => mkR 0#6 0#5 0#5 0#5 0#5 0x0F#6
  | .resFunct14 => mkR 0#6 0#5 0#5 0#5 0#5 0x14#6
  | .resFunct15 => mkR 0#6 0#5 0#5 0#5 0#5 0x15#6
  | .resFunct16 => mkR 0#6 0#5 0#5 0#5 0#5 0x16#6
  | .resFunct17 => mkR 0#6 0#5 0#5 0#5 0#5 0x17#6
  | .resFunct1C => mkR 0#6 0#5 0#5 0#5 0#5 0x1C#6
  | .resFunct1D => mkR 0#6 0#5 0#5 0#5 0#5 0x1D#6
  | .resFunct1E => mkR 0#6 0#5 0#5 0#5 0#5 0x1E#6
  | .resFunct1F => mkR 0#6 0#5 0#5 0#5 0#5 0x1F#6
  | .resFunct28 => mkR 0#6 0#5 0#5 0#5 0#5 0x28#6
  | .resFunct29 => mkR 0#6 0#5 0#5 0#5 0#5 0x29#6
  | .resFunct2C => mkR 0#6 0#5 0#5 0#5 0#5 0x2C#6
  | .resFunct2D => mkR 0#6 0#5 0#5 0#5 0#5 0x2D#6
  | .resFunct2E => mkR 0#6 0#5 0#5 0#5 0#5 0x2E#6
  | .resFunct2F => mkR 0#6 0#5 0#5 0#5 0#5 0x2F#6
  | .resFunct30 => mkR 0#6 0#5 0#5 0#5 0#5 0x30#6
  | .resFunct31 => mkR 0#6 0#5 0#5 0#5 0#5 0x31#6
  | .resFunct32 => mkR 0#6 0#5 0#5 0#5 0#5 0x32#6
  | .resFunct33 => mkR 0#6 0#5 0#5 0#5 0#5 0x33#6
  | .resFunct34 => mkR 0#6 0#5 0#5 0#5 0#5 0x34#6
  | .resFunct35 => mkR 0#6 0#5 0#5 0#5 0#5 0x35#6
  | .resFunct36 => mkR 0#6 0#5 0#5 0#5 0#5 0x36#6
  | .resFunct37 => mkR 0#6 0#5 0#5 0#5 0#5 0x37#6
  | .resFunct38 => mkR 0#6 0#5 0#5 0#5 0#5 0x38#6
  | .resFunct39 => mkR 0#6 0#5 0#5 0#5 0#5 0x39#6
  | .resFunct3A => mkR 0#6 0#5 0#5 0#5 0#5 0x3A#6
  | .resFunct3B => mkR 0#6 0#5 0#5 0#5 0#5 0x3B#6
  | .resFunct3C => mkR 0#6 0#5 0#5 0#5 0#5 0x3C#6
  | .resFunct3D => mkR 0#6 0#5 0#5 0#5 0#5 0x3D#6
  | .resFunct3E => mkR 0#6 0#5 0#5 0#5 0#5 0x3E#6
  | .resFunct3F => mkR 0#6 0#5 0#5 0#5 0#5 0x3F#6
  | .resCop0Rs01 => mkR 0x10#6 0x01#5 0#5 0#5 0#5 0#6
  | .resCop0Rs02 => mkR 0x10#6 0x02#5 0#5 0#5 0#5 0#6
  | .resCop0Rs03 => mkR 0x10#6 0x03#5 0#5 0#5 0#5 0#6
  | .resCop0Rs05 => mkR 0x10#6 0x05#5 0#5 0#5 0#5 0#6
  | .resCop0Rs06 => mkR 0x10#6 0x06#5 0#5 0#5 0#5 0#6
  | .resCop0Rs07 => mkR 0x10#6 0x07#5 0#5 0#5 0#5 0#6
  | .resCop0Rs08 => mkR 0x10#6 0x08#5 0#5 0#5 0#5 0#6
  | .resCop0Rs09 => mkR 0x10#6 0x09#5 0#5 0#5 0#5 0#6
  | .resCop0Rs0A => mkR 0x10#6 0x0A#5 0#5 0#5 0#5 0#6
  | .resCop0Rs0B => mkR 0x10#6 0x0B#5 0#5 0#5 0#5 0#6
  | .resCop0Rs0C => mkR 0x10#6 0x0C#5 0#5 0#5 0#5 0#6
  | .resCop0Rs0D => mkR 0x10#6 0x0D#5 0#5 0#5 0#5 0#6
  | .resCop0Rs0E => mkR 0x10#6 0x0E#5 0#5 0#5 0#5 0#6
  | .resCop0Rs0F => mkR 0x10#6 0x0F#5 0#5 0#5 0#5 0#6
  | .resCop0Co00 => mkR 0x10#6 0x10#5 0#5 0#5 0#5 0x00#6
  | .resCop0Co01 => mkR 0x10#6 0x10#5 0#5 0#5 0#5 0x01#6
  | .resCop0Co02 => mkR 0x10#6 0x10#5 0#5 0#5 0#5 0x02#6
  | .resCop0Co03 => mkR 0x10#6 0x10#5 0#5 0#5 0#5 0x03#6
  | .resCop0Co04 => mkR 0x10#6 0x10#5 0#5 0#5 0#5 0x04#6
  | .resCop0Co05 => mkR 0x10#6 0x10#5 0#5 0#5 0#5 0x05#6
  | .resCop0Co06 => mkR 0x10#6 0x10#5 0#5 0#5 0#5 0x06#6
  | .resCop0Co07 => mkR 0x10#6 0x10#5 0#5 0#5 0#5 0x07#6
  | .resCop0Co08 => mkR 0x10#6 0x10#5 0#5 0#5 0#5 0x08#6
  | .resCop0Co09 => mkR 0x10#6 0x10#5 0#5 0#5 0#5 0x09#6
  | .resCop0Co0A => mkR 0x10#6 0x10#5 0#5 0#5 0#5 0x0A#6
  | .resCop0Co0B => mkR 0x10#6 0x10#5 0#5 0#5 0#5 0x0B#6
  | .resCop0Co0C => mkR 0x10#6 0x10#5 0#5 0#5 0#5 0x0C#6
  | .resCop0Co0D => mkR 0x10#6 0x10#5 0#5 0#5 0#5 0x0D#6
  | .resCop0Co0E => mkR 0x10#6 0x10#5 0#5 0#5 0#5 0x0E#6
  | .resCop0Co0F => mkR 0x10#6 0x10#5 0#5 0#5 0#5 0x0F#6
  | .resCop0Co11 => mkR 0x10#6 0x10#5 0#5 0#5 0#5 0x11#6
  | .resCop0Co12 => mkR 0x10#6 0x10#5 0#5 0#5 0#5 0x12#6
  | .resCop0Co13 => mkR 0x10#6 0x10#5 0#5 0#5 0#5 0x13#6
  | .resCop0Co14 => mkR 0x10#6 0x10#5 0#5 0#5 0#5 0x14#6
  | .resCop0Co15 => mkR 0x10#6 0x10#5 0#5 0#5 0#5 0x15#6
  | .resCop0Co16 => mkR 0x10#6 0x10#5 0#5 0#5 0#5 0x16#6
  | .resCop0Co17 => mkR 0x10#6 0x10#5 0#5 0#5 0#5 0x17#6
  | .resCop0Co18 => mkR 0x10#6 0x10#5 0#5 0#5 0#5 0x18#6
  | .resCop0Co19 => mkR 0x10#6 0x10#5 0#5 0#5 0#5 0x19#6
  | .resCop0Co1A => mkR 0x10#6 0x10#5 0#5 0#5 0#5 0x1A#6
  | .resCop0Co1B => mkR 0x10#6 0x10#5 0#5 0#5 0#5 0x1B#6
  | .resCop0Co1C => mkR 0x10#6 0x10#5 0#5 0#5 0#5 0x1C#6
  | .resCop0Co1D => mkR 0x10#6 0x10#5 0#5 0#5 0#5 0x1D#6
  | .resCop0Co1E => mkR 0x10#6 0x10#5 0#5 0#5 0#5 0x1E#6
  | .resCop0Co1F => mkR 0x10#6 0x10#5 0#5 0#5 0#5 0x1F#6
  | .resCop0Co20 => mkR 0x10#6 0x10#5 0#5 0#5 0#5 0x20#6
  | .resCop0Co21 => mkR 0x10#6 0x10#5 0#5 0#5 0#5 0x21#6
  | .resCop0Co22 => mkR 0x10#6 0x10#5 0#5 0#5 0#5 0x22#6
  | .resCop0Co23 => mkR 0x10#6 0x10#5 0#5 0#5 0#5 0x23#6
  | .resCop0Co24 => mkR 0x10#6 0x10#5 0#5 0#5 0#5 0x24#6
  | .resCop0Co25 => mkR 0x10#6 0x10#5 0#5 0#5 0#5 0x25#6
  | .resCop0Co26 => mkR 0x10#6 0x10#5 0#5 0#5 0#5 0x26#6
  | .resCop0Co27 => mkR 0x10#6 0x10#5 0#5 0#5 0#5 0x27#6
  | .resCop0Co28 => mkR 0x10#6 0x10#5 0#5 0#5 0#5 0x28#6
  | .resCop0Co29 => mkR 0x10#6 0x10#5 0#5 0#5 0#5 0x29#6
  | .resCop0Co2A => mkR 0x10#6 0x10#5 0#5 0#5 0#5 0x2A#6
  | .resCop0Co2B => mkR 0x10#6 0x10#5 0#5 0#5 0#5 0x2B#6
  | .resCop0Co2C => mkR 0x10#6 0x10#5 0#5 0#5 0#5 0x2C#6
  | .resCop0Co2D => mkR 0x10#6 0x10#5 0#5 0#5 0#5 0x2D#6
  | .resCop0Co2E => mkR 0x10#6 0x10#5 0#5 0#5 0#5 0x2E#6
  | .resCop0Co2F => mkR 0x10#6 0x10#5 0#5 0#5 0#5 0x2F#6
  | .resCop0Co30 => mkR 0x10#6 0x10#5 0#5 0#5 0#5 0x30#6
  | .resCop0Co31 => mkR 0x10#6 0x10#5 0#5 0#5 0#5 0x31#6
  | .resCop0Co32 => mkR 0x10#6 0x10#5 0#5 0#5 0#5 0x32#6
  | .resCop0Co33 => mkR 0x10#6 0x10#5 0#5 0#5 0#5 0x33#6
  | .resCop0Co34 => mkR 0x10#6 0x10#5 0#5 0#5 0#5 0x34#6
  | .resCop0Co35 => mkR 0x10#6 0x10#5 0#5 0#5 0#5 0x35#6
  | .resCop0Co36 => mkR 0x10#6 0x10#5 0#5 0#5 0#5 0x36#6
  | .resCop0Co37 => mkR 0x10#6 0x10#5 0#5 0#5 0#5 0x37#6
  | .resCop0Co38 => mkR 0x10#6 0x10#5 0#5 0#5 0#5 0x38#6
  | .resCop0Co39 => mkR 0x10#6 0x10#5 0#5 0#5 0#5 0x39#6
  | .resCop0Co3A => mkR 0x10#6 0x10#5 0#5 0#5 0#5 0x3A#6
  | .resCop0Co3B => mkR 0x10#6 0x10#5 0#5 0#5 0#5 0x3B#6
  | .resCop0Co3C => mkR 0x10#6 0x10#5 0#5 0#5 0#5 0x3C#6
  | .resCop0Co3D => mkR 0x10#6 0x10#5 0#5 0#5 0#5 0x3D#6
  | .resCop0Co3E => mkR 0x10#6 0x10#5 0#5 0#5 0#5 0x3E#6
  | .resCop0Co3F => mkR 0x10#6 0x10#5 0#5 0#5 0#5 0x3F#6

/-! ### The opcode table

A row of spec/opcode_table.json as the mask of the bits that select it and the value those bits have. -/

/-- The selecting bits of an instruction's row: every bit `op`, `funct`, `rs` or `rt` selects by (30_encoding R190 to R193). -/
def Instr.rowMask : Instr → Word
  | .sll _ _ _ => 0xFC00003F#32
  | .srl _ _ _ => 0xFC00003F#32
  | .sra _ _ _ => 0xFC00003F#32
  | .sllv _ _ _ => 0xFC00003F#32
  | .srlv _ _ _ => 0xFC00003F#32
  | .srav _ _ _ => 0xFC00003F#32
  | .jr _ => 0xFC00003F#32
  | .jalr _ _ => 0xFC00003F#32
  | .syscall _ => 0xFC00003F#32
  | .brk _ => 0xFC00003F#32
  | .mfhi _ => 0xFC00003F#32
  | .mthi _ => 0xFC00003F#32
  | .mflo _ => 0xFC00003F#32
  | .mtlo _ => 0xFC00003F#32
  | .mult _ _ => 0xFC00003F#32
  | .multu _ _ => 0xFC00003F#32
  | .div _ _ => 0xFC00003F#32
  | .divu _ _ => 0xFC00003F#32
  | .add _ _ _ => 0xFC00003F#32
  | .addu _ _ _ => 0xFC00003F#32
  | .sub _ _ _ => 0xFC00003F#32
  | .subu _ _ _ => 0xFC00003F#32
  | .and _ _ _ => 0xFC00003F#32
  | .or _ _ _ => 0xFC00003F#32
  | .xor _ _ _ => 0xFC00003F#32
  | .nor _ _ _ => 0xFC00003F#32
  | .slt _ _ _ => 0xFC00003F#32
  | .sltu _ _ _ => 0xFC00003F#32
  | .bltz _ _ => 0xFC1F0000#32
  | .bgez _ _ => 0xFC1F0000#32
  | .bltzal _ _ => 0xFC1F0000#32
  | .bgezal _ _ => 0xFC1F0000#32
  | .bltzRt02 _ _ => 0xFC1F0000#32
  | .bgezRt03 _ _ => 0xFC1F0000#32
  | .bltzRt04 _ _ => 0xFC1F0000#32
  | .bgezRt05 _ _ => 0xFC1F0000#32
  | .bltzRt06 _ _ => 0xFC1F0000#32
  | .bgezRt07 _ _ => 0xFC1F0000#32
  | .bltzRt08 _ _ => 0xFC1F0000#32
  | .bgezRt09 _ _ => 0xFC1F0000#32
  | .bltzRt0A _ _ => 0xFC1F0000#32
  | .bgezRt0B _ _ => 0xFC1F0000#32
  | .bltzRt0C _ _ => 0xFC1F0000#32
  | .bgezRt0D _ _ => 0xFC1F0000#32
  | .bltzRt0E _ _ => 0xFC1F0000#32
  | .bgezRt0F _ _ => 0xFC1F0000#32
  | .bltzRt12 _ _ => 0xFC1F0000#32
  | .bgezRt13 _ _ => 0xFC1F0000#32
  | .bltzRt14 _ _ => 0xFC1F0000#32
  | .bgezRt15 _ _ => 0xFC1F0000#32
  | .bltzRt16 _ _ => 0xFC1F0000#32
  | .bgezRt17 _ _ => 0xFC1F0000#32
  | .bltzRt18 _ _ => 0xFC1F0000#32
  | .bgezRt19 _ _ => 0xFC1F0000#32
  | .bltzRt1A _ _ => 0xFC1F0000#32
  | .bgezRt1B _ _ => 0xFC1F0000#32
  | .bltzRt1C _ _ => 0xFC1F0000#32
  | .bgezRt1D _ _ => 0xFC1F0000#32
  | .bltzRt1E _ _ => 0xFC1F0000#32
  | .bgezRt1F _ _ => 0xFC1F0000#32
  | .j _ => 0xFC000000#32
  | .jal _ => 0xFC000000#32
  | .beq _ _ _ => 0xFC000000#32
  | .bne _ _ _ => 0xFC000000#32
  | .blez _ _ => 0xFC000000#32
  | .bgtz _ _ => 0xFC000000#32
  | .addi _ _ _ => 0xFC000000#32
  | .addiu _ _ _ => 0xFC000000#32
  | .slti _ _ _ => 0xFC000000#32
  | .sltiu _ _ _ => 0xFC000000#32
  | .andi _ _ _ => 0xFC000000#32
  | .ori _ _ _ => 0xFC000000#32
  | .xori _ _ _ => 0xFC000000#32
  | .lui _ _ => 0xFC000000#32
  | .lb _ _ _ => 0xFC000000#32
  | .lh _ _ _ => 0xFC000000#32
  | .lwl _ _ _ => 0xFC000000#32
  | .lw _ _ _ => 0xFC000000#32
  | .lbu _ _ _ => 0xFC000000#32
  | .lhu _ _ _ => 0xFC000000#32
  | .lwr _ _ _ => 0xFC000000#32
  | .sb _ _ _ => 0xFC000000#32
  | .sh _ _ _ => 0xFC000000#32
  | .swl _ _ _ => 0xFC000000#32
  | .sw _ _ _ => 0xFC000000#32
  | .swr _ _ _ => 0xFC000000#32
  | .mfc0 _ _ => 0xFFE00000#32
  | .mtc0 _ _ => 0xFFE00000#32
  | .rfe => 0xFE00003F#32
  | .cop2 _ => 0xFC000000#32
  | .lwc2 _ _ _ => 0xFC000000#32
  | .swc2 _ _ _ => 0xFC000000#32
  | .resOp11 => 0xFC000000#32
  | .resOp13 => 0xFC000000#32
  | .resOp14 => 0xFC000000#32
  | .resOp15 => 0xFC000000#32
  | .resOp16 => 0xFC000000#32
  | .resOp17 => 0xFC000000#32
  | .resOp18 => 0xFC000000#32
  | .resOp19 => 0xFC000000#32
  | .resOp1A => 0xFC000000#32
  | .resOp1B => 0xFC000000#32
  | .resOp1C => 0xFC000000#32
  | .resOp1D => 0xFC000000#32
  | .resOp1E => 0xFC000000#32
  | .resOp1F => 0xFC000000#32
  | .resOp27 => 0xFC000000#32
  | .resOp2C => 0xFC000000#32
  | .resOp2D => 0xFC000000#32
  | .resOp2F => 0xFC000000#32
  | .resOp30 => 0xFC000000#32
  | .resOp31 => 0xFC000000#32
  | .resOp33 => 0xFC000000#32
  | .resOp34 => 0xFC000000#32
  | .resOp35 => 0xFC000000#32
  | .resOp36 => 0xFC000000#32
  | .resOp37 => 0xFC000000#32
  | .resOp38 => 0xFC000000#32
  | .resOp39 => 0xFC000000#32
  | .resOp3B => 0xFC000000#32
  | .resOp3C => 0xFC000000#32
  | .resOp3D => 0xFC000000#32
  | .resOp3E => 0xFC000000#32
  | .resOp3F => 0xFC000000#32
  | .resFunct01 => 0xFC00003F#32
  | .resFunct05 => 0xFC00003F#32
  | .resFunct0A => 0xFC00003F#32
  | .resFunct0B => 0xFC00003F#32
  | .resFunct0E => 0xFC00003F#32
  | .resFunct0F => 0xFC00003F#32
  | .resFunct14 => 0xFC00003F#32
  | .resFunct15 => 0xFC00003F#32
  | .resFunct16 => 0xFC00003F#32
  | .resFunct17 => 0xFC00003F#32
  | .resFunct1C => 0xFC00003F#32
  | .resFunct1D => 0xFC00003F#32
  | .resFunct1E => 0xFC00003F#32
  | .resFunct1F => 0xFC00003F#32
  | .resFunct28 => 0xFC00003F#32
  | .resFunct29 => 0xFC00003F#32
  | .resFunct2C => 0xFC00003F#32
  | .resFunct2D => 0xFC00003F#32
  | .resFunct2E => 0xFC00003F#32
  | .resFunct2F => 0xFC00003F#32
  | .resFunct30 => 0xFC00003F#32
  | .resFunct31 => 0xFC00003F#32
  | .resFunct32 => 0xFC00003F#32
  | .resFunct33 => 0xFC00003F#32
  | .resFunct34 => 0xFC00003F#32
  | .resFunct35 => 0xFC00003F#32
  | .resFunct36 => 0xFC00003F#32
  | .resFunct37 => 0xFC00003F#32
  | .resFunct38 => 0xFC00003F#32
  | .resFunct39 => 0xFC00003F#32
  | .resFunct3A => 0xFC00003F#32
  | .resFunct3B => 0xFC00003F#32
  | .resFunct3C => 0xFC00003F#32
  | .resFunct3D => 0xFC00003F#32
  | .resFunct3E => 0xFC00003F#32
  | .resFunct3F => 0xFC00003F#32
  | .resCop0Rs01 => 0xFFE00000#32
  | .resCop0Rs02 => 0xFFE00000#32
  | .resCop0Rs03 => 0xFFE00000#32
  | .resCop0Rs05 => 0xFFE00000#32
  | .resCop0Rs06 => 0xFFE00000#32
  | .resCop0Rs07 => 0xFFE00000#32
  | .resCop0Rs08 => 0xFFE00000#32
  | .resCop0Rs09 => 0xFFE00000#32
  | .resCop0Rs0A => 0xFFE00000#32
  | .resCop0Rs0B => 0xFFE00000#32
  | .resCop0Rs0C => 0xFFE00000#32
  | .resCop0Rs0D => 0xFFE00000#32
  | .resCop0Rs0E => 0xFFE00000#32
  | .resCop0Rs0F => 0xFFE00000#32
  | .resCop0Co00 => 0xFE00003F#32
  | .resCop0Co01 => 0xFE00003F#32
  | .resCop0Co02 => 0xFE00003F#32
  | .resCop0Co03 => 0xFE00003F#32
  | .resCop0Co04 => 0xFE00003F#32
  | .resCop0Co05 => 0xFE00003F#32
  | .resCop0Co06 => 0xFE00003F#32
  | .resCop0Co07 => 0xFE00003F#32
  | .resCop0Co08 => 0xFE00003F#32
  | .resCop0Co09 => 0xFE00003F#32
  | .resCop0Co0A => 0xFE00003F#32
  | .resCop0Co0B => 0xFE00003F#32
  | .resCop0Co0C => 0xFE00003F#32
  | .resCop0Co0D => 0xFE00003F#32
  | .resCop0Co0E => 0xFE00003F#32
  | .resCop0Co0F => 0xFE00003F#32
  | .resCop0Co11 => 0xFE00003F#32
  | .resCop0Co12 => 0xFE00003F#32
  | .resCop0Co13 => 0xFE00003F#32
  | .resCop0Co14 => 0xFE00003F#32
  | .resCop0Co15 => 0xFE00003F#32
  | .resCop0Co16 => 0xFE00003F#32
  | .resCop0Co17 => 0xFE00003F#32
  | .resCop0Co18 => 0xFE00003F#32
  | .resCop0Co19 => 0xFE00003F#32
  | .resCop0Co1A => 0xFE00003F#32
  | .resCop0Co1B => 0xFE00003F#32
  | .resCop0Co1C => 0xFE00003F#32
  | .resCop0Co1D => 0xFE00003F#32
  | .resCop0Co1E => 0xFE00003F#32
  | .resCop0Co1F => 0xFE00003F#32
  | .resCop0Co20 => 0xFE00003F#32
  | .resCop0Co21 => 0xFE00003F#32
  | .resCop0Co22 => 0xFE00003F#32
  | .resCop0Co23 => 0xFE00003F#32
  | .resCop0Co24 => 0xFE00003F#32
  | .resCop0Co25 => 0xFE00003F#32
  | .resCop0Co26 => 0xFE00003F#32
  | .resCop0Co27 => 0xFE00003F#32
  | .resCop0Co28 => 0xFE00003F#32
  | .resCop0Co29 => 0xFE00003F#32
  | .resCop0Co2A => 0xFE00003F#32
  | .resCop0Co2B => 0xFE00003F#32
  | .resCop0Co2C => 0xFE00003F#32
  | .resCop0Co2D => 0xFE00003F#32
  | .resCop0Co2E => 0xFE00003F#32
  | .resCop0Co2F => 0xFE00003F#32
  | .resCop0Co30 => 0xFE00003F#32
  | .resCop0Co31 => 0xFE00003F#32
  | .resCop0Co32 => 0xFE00003F#32
  | .resCop0Co33 => 0xFE00003F#32
  | .resCop0Co34 => 0xFE00003F#32
  | .resCop0Co35 => 0xFE00003F#32
  | .resCop0Co36 => 0xFE00003F#32
  | .resCop0Co37 => 0xFE00003F#32
  | .resCop0Co38 => 0xFE00003F#32
  | .resCop0Co39 => 0xFE00003F#32
  | .resCop0Co3A => 0xFE00003F#32
  | .resCop0Co3B => 0xFE00003F#32
  | .resCop0Co3C => 0xFE00003F#32
  | .resCop0Co3D => 0xFE00003F#32
  | .resCop0Co3E => 0xFE00003F#32
  | .resCop0Co3F => 0xFE00003F#32

/-- The value of the selecting bits of an instruction's row. -/
def Instr.rowMatch : Instr → Word
  | .sll _ _ _ => 0x00000000#32
  | .srl _ _ _ => 0x00000002#32
  | .sra _ _ _ => 0x00000003#32
  | .sllv _ _ _ => 0x00000004#32
  | .srlv _ _ _ => 0x00000006#32
  | .srav _ _ _ => 0x00000007#32
  | .jr _ => 0x00000008#32
  | .jalr _ _ => 0x00000009#32
  | .syscall _ => 0x0000000C#32
  | .brk _ => 0x0000000D#32
  | .mfhi _ => 0x00000010#32
  | .mthi _ => 0x00000011#32
  | .mflo _ => 0x00000012#32
  | .mtlo _ => 0x00000013#32
  | .mult _ _ => 0x00000018#32
  | .multu _ _ => 0x00000019#32
  | .div _ _ => 0x0000001A#32
  | .divu _ _ => 0x0000001B#32
  | .add _ _ _ => 0x00000020#32
  | .addu _ _ _ => 0x00000021#32
  | .sub _ _ _ => 0x00000022#32
  | .subu _ _ _ => 0x00000023#32
  | .and _ _ _ => 0x00000024#32
  | .or _ _ _ => 0x00000025#32
  | .xor _ _ _ => 0x00000026#32
  | .nor _ _ _ => 0x00000027#32
  | .slt _ _ _ => 0x0000002A#32
  | .sltu _ _ _ => 0x0000002B#32
  | .bltz _ _ => 0x04000000#32
  | .bgez _ _ => 0x04010000#32
  | .bltzal _ _ => 0x04100000#32
  | .bgezal _ _ => 0x04110000#32
  | .bltzRt02 _ _ => 0x04020000#32
  | .bgezRt03 _ _ => 0x04030000#32
  | .bltzRt04 _ _ => 0x04040000#32
  | .bgezRt05 _ _ => 0x04050000#32
  | .bltzRt06 _ _ => 0x04060000#32
  | .bgezRt07 _ _ => 0x04070000#32
  | .bltzRt08 _ _ => 0x04080000#32
  | .bgezRt09 _ _ => 0x04090000#32
  | .bltzRt0A _ _ => 0x040A0000#32
  | .bgezRt0B _ _ => 0x040B0000#32
  | .bltzRt0C _ _ => 0x040C0000#32
  | .bgezRt0D _ _ => 0x040D0000#32
  | .bltzRt0E _ _ => 0x040E0000#32
  | .bgezRt0F _ _ => 0x040F0000#32
  | .bltzRt12 _ _ => 0x04120000#32
  | .bgezRt13 _ _ => 0x04130000#32
  | .bltzRt14 _ _ => 0x04140000#32
  | .bgezRt15 _ _ => 0x04150000#32
  | .bltzRt16 _ _ => 0x04160000#32
  | .bgezRt17 _ _ => 0x04170000#32
  | .bltzRt18 _ _ => 0x04180000#32
  | .bgezRt19 _ _ => 0x04190000#32
  | .bltzRt1A _ _ => 0x041A0000#32
  | .bgezRt1B _ _ => 0x041B0000#32
  | .bltzRt1C _ _ => 0x041C0000#32
  | .bgezRt1D _ _ => 0x041D0000#32
  | .bltzRt1E _ _ => 0x041E0000#32
  | .bgezRt1F _ _ => 0x041F0000#32
  | .j _ => 0x08000000#32
  | .jal _ => 0x0C000000#32
  | .beq _ _ _ => 0x10000000#32
  | .bne _ _ _ => 0x14000000#32
  | .blez _ _ => 0x18000000#32
  | .bgtz _ _ => 0x1C000000#32
  | .addi _ _ _ => 0x20000000#32
  | .addiu _ _ _ => 0x24000000#32
  | .slti _ _ _ => 0x28000000#32
  | .sltiu _ _ _ => 0x2C000000#32
  | .andi _ _ _ => 0x30000000#32
  | .ori _ _ _ => 0x34000000#32
  | .xori _ _ _ => 0x38000000#32
  | .lui _ _ => 0x3C000000#32
  | .lb _ _ _ => 0x80000000#32
  | .lh _ _ _ => 0x84000000#32
  | .lwl _ _ _ => 0x88000000#32
  | .lw _ _ _ => 0x8C000000#32
  | .lbu _ _ _ => 0x90000000#32
  | .lhu _ _ _ => 0x94000000#32
  | .lwr _ _ _ => 0x98000000#32
  | .sb _ _ _ => 0xA0000000#32
  | .sh _ _ _ => 0xA4000000#32
  | .swl _ _ _ => 0xA8000000#32
  | .sw _ _ _ => 0xAC000000#32
  | .swr _ _ _ => 0xB8000000#32
  | .mfc0 _ _ => 0x40000000#32
  | .mtc0 _ _ => 0x40800000#32
  | .rfe => 0x42000010#32
  | .cop2 _ => 0x48000000#32
  | .lwc2 _ _ _ => 0xC8000000#32
  | .swc2 _ _ _ => 0xE8000000#32
  | .resOp11 => 0x44000000#32
  | .resOp13 => 0x4C000000#32
  | .resOp14 => 0x50000000#32
  | .resOp15 => 0x54000000#32
  | .resOp16 => 0x58000000#32
  | .resOp17 => 0x5C000000#32
  | .resOp18 => 0x60000000#32
  | .resOp19 => 0x64000000#32
  | .resOp1A => 0x68000000#32
  | .resOp1B => 0x6C000000#32
  | .resOp1C => 0x70000000#32
  | .resOp1D => 0x74000000#32
  | .resOp1E => 0x78000000#32
  | .resOp1F => 0x7C000000#32
  | .resOp27 => 0x9C000000#32
  | .resOp2C => 0xB0000000#32
  | .resOp2D => 0xB4000000#32
  | .resOp2F => 0xBC000000#32
  | .resOp30 => 0xC0000000#32
  | .resOp31 => 0xC4000000#32
  | .resOp33 => 0xCC000000#32
  | .resOp34 => 0xD0000000#32
  | .resOp35 => 0xD4000000#32
  | .resOp36 => 0xD8000000#32
  | .resOp37 => 0xDC000000#32
  | .resOp38 => 0xE0000000#32
  | .resOp39 => 0xE4000000#32
  | .resOp3B => 0xEC000000#32
  | .resOp3C => 0xF0000000#32
  | .resOp3D => 0xF4000000#32
  | .resOp3E => 0xF8000000#32
  | .resOp3F => 0xFC000000#32
  | .resFunct01 => 0x00000001#32
  | .resFunct05 => 0x00000005#32
  | .resFunct0A => 0x0000000A#32
  | .resFunct0B => 0x0000000B#32
  | .resFunct0E => 0x0000000E#32
  | .resFunct0F => 0x0000000F#32
  | .resFunct14 => 0x00000014#32
  | .resFunct15 => 0x00000015#32
  | .resFunct16 => 0x00000016#32
  | .resFunct17 => 0x00000017#32
  | .resFunct1C => 0x0000001C#32
  | .resFunct1D => 0x0000001D#32
  | .resFunct1E => 0x0000001E#32
  | .resFunct1F => 0x0000001F#32
  | .resFunct28 => 0x00000028#32
  | .resFunct29 => 0x00000029#32
  | .resFunct2C => 0x0000002C#32
  | .resFunct2D => 0x0000002D#32
  | .resFunct2E => 0x0000002E#32
  | .resFunct2F => 0x0000002F#32
  | .resFunct30 => 0x00000030#32
  | .resFunct31 => 0x00000031#32
  | .resFunct32 => 0x00000032#32
  | .resFunct33 => 0x00000033#32
  | .resFunct34 => 0x00000034#32
  | .resFunct35 => 0x00000035#32
  | .resFunct36 => 0x00000036#32
  | .resFunct37 => 0x00000037#32
  | .resFunct38 => 0x00000038#32
  | .resFunct39 => 0x00000039#32
  | .resFunct3A => 0x0000003A#32
  | .resFunct3B => 0x0000003B#32
  | .resFunct3C => 0x0000003C#32
  | .resFunct3D => 0x0000003D#32
  | .resFunct3E => 0x0000003E#32
  | .resFunct3F => 0x0000003F#32
  | .resCop0Rs01 => 0x40200000#32
  | .resCop0Rs02 => 0x40400000#32
  | .resCop0Rs03 => 0x40600000#32
  | .resCop0Rs05 => 0x40A00000#32
  | .resCop0Rs06 => 0x40C00000#32
  | .resCop0Rs07 => 0x40E00000#32
  | .resCop0Rs08 => 0x41000000#32
  | .resCop0Rs09 => 0x41200000#32
  | .resCop0Rs0A => 0x41400000#32
  | .resCop0Rs0B => 0x41600000#32
  | .resCop0Rs0C => 0x41800000#32
  | .resCop0Rs0D => 0x41A00000#32
  | .resCop0Rs0E => 0x41C00000#32
  | .resCop0Rs0F => 0x41E00000#32
  | .resCop0Co00 => 0x42000000#32
  | .resCop0Co01 => 0x42000001#32
  | .resCop0Co02 => 0x42000002#32
  | .resCop0Co03 => 0x42000003#32
  | .resCop0Co04 => 0x42000004#32
  | .resCop0Co05 => 0x42000005#32
  | .resCop0Co06 => 0x42000006#32
  | .resCop0Co07 => 0x42000007#32
  | .resCop0Co08 => 0x42000008#32
  | .resCop0Co09 => 0x42000009#32
  | .resCop0Co0A => 0x4200000A#32
  | .resCop0Co0B => 0x4200000B#32
  | .resCop0Co0C => 0x4200000C#32
  | .resCop0Co0D => 0x4200000D#32
  | .resCop0Co0E => 0x4200000E#32
  | .resCop0Co0F => 0x4200000F#32
  | .resCop0Co11 => 0x42000011#32
  | .resCop0Co12 => 0x42000012#32
  | .resCop0Co13 => 0x42000013#32
  | .resCop0Co14 => 0x42000014#32
  | .resCop0Co15 => 0x42000015#32
  | .resCop0Co16 => 0x42000016#32
  | .resCop0Co17 => 0x42000017#32
  | .resCop0Co18 => 0x42000018#32
  | .resCop0Co19 => 0x42000019#32
  | .resCop0Co1A => 0x4200001A#32
  | .resCop0Co1B => 0x4200001B#32
  | .resCop0Co1C => 0x4200001C#32
  | .resCop0Co1D => 0x4200001D#32
  | .resCop0Co1E => 0x4200001E#32
  | .resCop0Co1F => 0x4200001F#32
  | .resCop0Co20 => 0x42000020#32
  | .resCop0Co21 => 0x42000021#32
  | .resCop0Co22 => 0x42000022#32
  | .resCop0Co23 => 0x42000023#32
  | .resCop0Co24 => 0x42000024#32
  | .resCop0Co25 => 0x42000025#32
  | .resCop0Co26 => 0x42000026#32
  | .resCop0Co27 => 0x42000027#32
  | .resCop0Co28 => 0x42000028#32
  | .resCop0Co29 => 0x42000029#32
  | .resCop0Co2A => 0x4200002A#32
  | .resCop0Co2B => 0x4200002B#32
  | .resCop0Co2C => 0x4200002C#32
  | .resCop0Co2D => 0x4200002D#32
  | .resCop0Co2E => 0x4200002E#32
  | .resCop0Co2F => 0x4200002F#32
  | .resCop0Co30 => 0x42000030#32
  | .resCop0Co31 => 0x42000031#32
  | .resCop0Co32 => 0x42000032#32
  | .resCop0Co33 => 0x42000033#32
  | .resCop0Co34 => 0x42000034#32
  | .resCop0Co35 => 0x42000035#32
  | .resCop0Co36 => 0x42000036#32
  | .resCop0Co37 => 0x42000037#32
  | .resCop0Co38 => 0x42000038#32
  | .resCop0Co39 => 0x42000039#32
  | .resCop0Co3A => 0x4200003A#32
  | .resCop0Co3B => 0x4200003B#32
  | .resCop0Co3C => 0x4200003C#32
  | .resCop0Co3D => 0x4200003D#32
  | .resCop0Co3E => 0x4200003E#32
  | .resCop0Co3F => 0x4200003F#32

end Sys2Proof
end

