-- ==== Sys2Proof/Machine/State.lean ====
section
/-! DEFINITION. The state of the machine as plain data (10_state R40 to R71), its reset value, and the reasons a step can stop. -/

namespace Sys2Proof.Machine

/-- Why the machine stops with no next step. -/
inductive Fault where
  /-- Raised by `step` alone, in a state whose refusal mark is set: such a state has no step (10_state R69). Safe: the spec
  gives it no step either. -/
  | refusedState
  deriving DecidableEq, Repr

/-- Why a step has no meaning: the spec's `refuse(reason)` (00_scope R18). Each constructor but the first is one cause of
60_exceptions R447. All are safe: the model stops where the spec stops. -/
inductive Refusal where
  /-- An instruction that has no meaning yet; raised by an arm of `exec` alone. Safe. -/
  | notModelled (mnemonic : String)
  /-- R447 (1): a word of the COP2 group under COP2_MODE = Refuse; raised by the COP2, LWC2 and SWC2 meanings. Safe. -/
  | cop2Word
  /-- R447 (2): the scratchpad through KSEG1; raised by `resolve`. Safe. -/
  | scratchpadThroughKseg1
  /-- R447 (3): a fetch that resolves to neither RAM nor ROM; raised by `fetchWord`. Safe. -/
  | fetchOutsideRamAndRom
  /-- R447 (4): an 8-bit data access to I_STAT or I_MASK; raised by `irqRead` and `irqWrite`. Safe. -/
  | byteAccessToInterruptController
  /-- R447 (5): a data access to the DMA range that is not 32 bits wide; raised by `dmaRead` and `dmaWrite`. Safe. -/
  | narrowAccessToDma
  /-- R447 (6): SWL or SWR whose aligned word is not RAM or scratchpad; raised by `storePartial`. Safe. -/
  | partialStoreOutsideRamAndScratchpad
  /-- R447 (7): `triggerInterrupt` of a number outside 0..15; raised by `triggerInterrupt`. Safe. -/
  | interruptNumberOutOfRange
  /-- R447 (8): a DMA activation in a mode the channel does not have; raised by `runChannel`. Safe. -/
  | dmaModeNotSupported
  /-- R447 (9): a linked-list walk that comes back to a node; raised by `linkedList`. Safe. -/
  | linkedListNeverTerminates
  /-- R447 (10): an event at or beyond the sentinel; raised by `scheduleEvent`. Safe. -/
  | eventAtOrBeyondSentinel
  deriving DecidableEq, Repr

/-- The width of a data access (20_memory R131). -/
inductive Width where
  | byte
  | half
  | word
  deriving DecidableEq, Repr

/-- The exceptions of this block (60_exceptions R430). -/
inductive Exc where
  | int
  | adEL
  | adES
  | sys
  | bp
  | ri
  | ov
  deriving DecidableEq, Repr

/-- A register and a value for it: a step's write `W`, its new delayed load `L` (10_state R73), or the pending load `P` (R64). -/
structure RegWrite where
  reg : Reg
  val : Word
  deriving DecidableEq, Repr

/-- What an event does when it fires (60_exceptions R481, R483). -/
inductive Payload where
  /-- A deferred `triggerInterrupt(n)`. -/
  | irq (n : Nat)
  /-- An external collaborator's own event. -/
  | ext (k : Nat)
  /-- The permanent last entry; it never fires. -/
  | sentinel
  deriving DecidableEq, Repr

/-- One entry of the event queue (60_exceptions R481). -/
structure Event where
  target : Nat
  seq : Nat
  payload : Payload
  deriving DecidableEq, Repr

/-- A call an external collaborator makes at one of its turns (60_exceptions R483, 70_reset_and_hazards R580). -/
inductive CollabCall where
  /-- Set bit n of I_STAT at once (20_memory R123). -/
  | triggerInterrupt (n : Nat)
  /-- Queue the collaborator's own event `Ext(k)` (60_exceptions R482). -/
  | scheduleEvent (delta k : Nat)
  /-- Queue a deferred `triggerInterrupt(n)` (60_exceptions R483). -/
  | scheduleInterrupt (delta n : Nat)
  deriving DecidableEq, Repr

/-- What is recorded for the external collaborators (20_memory R113, R114, R118; 60_exceptions R514). -/
inductive ExtRecord where
  | read (name : String) (offset : Nat) (width : Width)
  | write (name : String) (offset : Nat) (width : Width) (value : Word)
  | portWrite (channel : Nat) (value : Word)
  deriving DecidableEq, Repr

/-- The registers of one DMA channel (60_exceptions R501, R503 to R505). -/
structure Channel where
  madr : Word
  bcr : Word
  chcr : Word
  deriving DecidableEq, Repr

/-- The state of the machine. Each field names the rule that gives it. -/
structure State where
  /-- `x[0]..x[31]` (10_state R40); read and written through `readReg` and `commit`, where register 0 is hardwired (R41). -/
  regs : Vector Word 32
  /-- HI (10_state R44). -/
  hi : Word
  /-- LO (10_state R44). -/
  lo : Word
  /-- The address of the next instruction to fetch (10_state R60). -/
  pc : Word
  /-- The address of the one after it (10_state R61). -/
  nextpc : Word
  /-- The address of the instruction in flight (10_state R62). -/
  curpc : Word
  /-- `B`: this step executed a branch or jump (10_state R63). -/
  flagB : Bool
  /-- `T`: that branch was taken (10_state R63). -/
  flagT : Bool
  /-- `DS`: this step is in a delay slot (10_state R63). -/
  flagDS : Bool
  /-- `DT`: the previous branch was taken (10_state R63). -/
  flagDT : Bool
  /-- `P`, the pending delayed load (10_state R64). -/
  pending : Option RegWrite
  /-- SR, COP0 register 12 (10_state R47, R48). -/
  sr : Word
  /-- The stored part of Cause, COP0 register 13 (10_state R53, R54); bit 10 is live and not stored here. -/
  cause : Word
  /-- EPC, COP0 register 14 (10_state R55). -/
  epc : Word
  /-- BadVaddr, COP0 register 8 (10_state R56). -/
  badVaddr : Word
  /-- RAM, scratchpad and boot ROM, by physical address, in canonical form (10_state R66; `Memory.wf`). -/
  mem : List Host.Cell
  /-- I_STAT (20_memory R120). -/
  iStat : BitVec 16
  /-- I_MASK (20_memory R121). -/
  iMask : BitVec 16
  /-- The shared cycle counter (60_exceptions R480); an exact number (log 9). -/
  cycles : Nat
  /-- The event queue, in insertion order, with its permanent sentinel (60_exceptions R481). -/
  queue : List Event
  /-- The next sequence number (60_exceptions R481). -/
  seq : Nat
  /-- The CPU's next-wake value (60_exceptions R482, R485). -/
  nextWake : Nat
  /-- The seven DMA channels (60_exceptions R500, R501). -/
  chans : Vector Channel 7
  /-- DPCR (60_exceptions R506). -/
  dpcr : Word
  /-- DICR; bit 31 is the stored master flag (60_exceptions R507). -/
  dicr : Word
  /-- The refusal mark (10_state R69, log 1). -/
  refusalMark : Bool
  /-- MODEL FIELD: how many `draw()` values have been taken (log 6). -/
  draws : Nat
  /-- MODEL FIELD: what the external collaborators call at their next turns, the nearest turn first (log 7). -/
  script : List (List CollabCall)
  /-- MODEL FIELD: the record kept for the external collaborators, newest first (log 10). -/
  extLog : List ExtRecord
  /-- MODEL FIELD: the parameters of 00_scope R11; no step changes them (log 3). -/
  cfg : Config
  deriving DecidableEq, Repr

/-- The sentinel entry (60_exceptions R481). -/
def sentinelEvent : Event := ⟨Config.maxCycle, 0, .sentinel⟩

/-- The machine right after reset (10_state R71, 70_reset_and_hazards R560 to R562). Memory lists nothing: RAM and scratchpad
are zero, and no boot image is installed (log 2). The last four fields are the model's own. -/
def State.reset : State where
  regs := Vector.replicate 32 0#32
  hi := 0#32
  lo := 0#32
  pc := Config.resetPc
  nextpc := 0xBFC00004#32
  curpc := 0#32
  flagB := false
  flagT := false
  flagDS := false
  flagDT := false
  pending := none
  sr := 0#32
  cause := 0#32
  epc := 0#32
  badVaddr := 0#32
  mem := []
  iStat := 0#16
  iMask := 0#16
  cycles := 0
  queue := [sentinelEvent]
  seq := 0
  nextWake := Config.maxCycle
  chans := Vector.replicate 7 ⟨0#32, 0#32, 0#32⟩
  dpcr := 0#32
  dicr := 0#32
  refusalMark := false
  draws := 0
  script := []
  extLog := []
  cfg := Config.default

end Sys2Proof.Machine
end

