-- ==== Sys2Proof/Machine/Ops.lean ====
section
/-! DEFINITION. The named operations over registers and memory, the end of an instruction, taking an exception and returning
from one, the interrupt poll and the cycle charge (10_state section 8, 60_exceptions sections 1 to 5). -/

namespace Sys2Proof.Machine

/-- What executing an instruction answers. -/
abbrev Result := Host.Outcome State Fault Refusal

/-! ### Memory: bytes by physical address -/

/-- Memory as a list of cells; the machine keeps it in canonical form (`Memory.wf`). -/
abbrev Memory := List Host.Cell

/-- What an address not listed reads as: RAM and scratchpad are zero after reset (70_reset_and_hazards R562); for ROM a DESIGN
CHOICE (log 2). -/
def unlistedByte : Byte := 0#8

/-- The byte at an address. -/
def Memory.read : Memory → Nat → Byte
  | [], _ => unlistedByte
  | (b, v) :: m, a => if a = b then v else Memory.read m a

/-- Memory with one byte written, in canonical form: a byte equal to what an unlisted address reads as is not listed. -/
def Memory.write : Memory → Nat → Byte → Memory
  | [], a, v => if v = unlistedByte then [] else [(a, v)]
  | (b, w) :: m, a, v =>
    if a < b then (if v = unlistedByte then (b, w) :: m else (a, v) :: (b, w) :: m)
    else if a = b then (if v = unlistedByte then m else (a, v) :: m)
    else (b, w) :: Memory.write m a v

/-- Every cell of the list lies above an address. -/
def Memory.above (a : Nat) : Memory → Bool
  | [] => true
  | (b, _) :: _ => a < b

/-- The canonical form: addresses strictly rising, and no cell equal to what an unlisted address reads as. -/
def Memory.wf : Memory → Bool
  | [] => true
  | (b, v) :: m => v != unlistedByte && Memory.above b m && Memory.wf m

/-- The number of bytes of an access. -/
def Width.bytes : Width → Nat
  | .byte => 1
  | .half => 2
  | .word => 4

/-- The value of an access of a width at an address, little-endian and zero-extended (20_memory R101, R113). -/
def Memory.readVal (m : Memory) (a : Nat) : Width → Word
  | .byte => (m.read a).setWidth 32
  | .half => (m.read (a + 1) ++ m.read a).setWidth 32
  | .word => wordOfBytes (m.read a) (m.read (a + 1)) (m.read (a + 2)) (m.read (a + 3))

/-- Memory with the low bytes of a value written at an address, little-endian (20_memory R101, R114). -/
def Memory.writeVal (m : Memory) (a : Nat) (v : Word) : Width → Memory
  | .byte => m.write a (byteOfWord v 0)
  | .half => (m.write a (byteOfWord v 0)).write (a + 1) (byteOfWord v 1)
  | .word =>
    (((m.write a (byteOfWord v 0)).write (a + 1) (byteOfWord v 1)).write (a + 2) (byteOfWord v 2)).write (a + 3) (byteOfWord v 3)

/-- The part of a value that an access of a width moves, zero-extended (20_memory R113, R114). -/
def Width.trunc : Width → Word → Word
  | .byte, v => (v.extractLsb' 0 8).setWidth 32
  | .half, v => (v.extractLsb' 0 16).setWidth 32
  | .word, v => v

/-! ### General registers (10_state R40, R41, R76, R77) -/

/-- `x[i]`: register 0 always reads zero (10_state R41); every other from the committed register file (R76). -/
def State.readReg (s : State) (r : Reg) : Word :=
  if r = 0#5 then 0#32 else s.regs[r.toNat]

/-- The register file with one register written; a write to register 0 is discarded (10_state R41). -/
def writeFile (f : Vector Word 32) (r : Reg) (v : Word) : Vector Word 32 :=
  if r = 0#5 then f else f.set r.toNat v

/-- `pend(i)`, the value of a register as LWL and LWR see it (43_loadstore R357). -/
def State.pend (s : State) (r : Reg) : Word :=
  match s.pending with
  | some p => if p.reg = r then p.val else s.readReg r
  | none => s.readReg r

/-- The register file after an optional write. -/
def writeFileOpt (f : Vector Word 32) : Option RegWrite → Vector Word 32
  | none => f
  | some w => writeFile f w.reg w.val

/-- The pending load that this step's commit brings into the register file: none when this step's own load has the same target,
which discards the older one (10_state R77). -/
def State.committing (s : State) (l : Option RegWrite) : Option RegWrite :=
  match s.pending, l with
  | some p, some q => if q.reg = p.reg then none else some p
  | some p, none => some p
  | none, _ => none

/-- The commit (10_state R77): the previous step's delayed load, then this step's write `w`, then this step's load `l` becomes
the pending one. -/
def State.commit (s : State) (w l : Option RegWrite) : State :=
  { s with regs := writeFileOpt (writeFileOpt s.regs (s.committing l)) w, pending := l }

/-! ### How an instruction ends -/

/-- An instruction without a register result (10_state R77 with no `W` and no `L`). -/
def finish (s : State) : Result := .next (s.commit none none)

/-- An instruction that writes a register (`x[r] <- v`, 00_scope R15). -/
def writeBack (r : Reg) (v : Word) (s : State) : Result := .next (s.commit (some ⟨r, v⟩) none)

/-- An instruction that issues a delayed load (`x[r] <=ld v`, 10_state R78). -/
def delayLoad (r : Reg) (v : Word) (s : State) : Result := .next (s.commit none (some ⟨r, v⟩))

/-! ### SR and Cause (10_state R47 to R54) -/

/-- SR.IEc (bit 0). -/
def State.iec (s : State) : Bool := s.sr.getLsbD 0
/-- SR.KUc (bit 1): 0 is kernel mode, 1 user mode (10_state R50). -/
def State.kuc (s : State) : Bool := s.sr.getLsbD 1
/-- SR.Im (bits 15:8). -/
def State.im (s : State) : Byte := s.sr.extractLsb' 8 8
/-- SR.Isc (bit 16). -/
def State.isc (s : State) : Bool := s.sr.getLsbD 16
/-- SR.BEV (bit 22). -/
def State.bev (s : State) : Bool := s.sr.getLsbD 22

/-- `isIRQPending()` (20_memory R124). -/
def State.irqPending (s : State) : Bool := s.iStat &&& s.iMask != 0#16

/-- Cause as every read sees it: the stored part, and bit 10 live (10_state R54). -/
def State.causeValue (s : State) : Word := s.cause ||| (if s.irqPending then 0x00000400#32 else 0#32)

/-- Cause.IP (bits 15:8 of the composed value, 10_state R54). -/
def State.ip (s : State) : Byte := s.causeValue.extractLsb' 8 8

/-- The push of the mode stack at exception entry: `SR[5:0] <- (SR[5:0] << 2) AND 0x3F`, bits 31:6 unchanged (10_state R49). -/
def pushMode (sr : Word) : Word :=
  (sr &&& 0xFFFFFFC0#32) ||| (((sr &&& 0x3F#32) <<< 2) &&& 0x3F#32)

/-- The pop of the mode stack by RFE: `SR[3:0] <- SR[5:2]`, bits 31:4 unchanged (10_state R49, 44_system R394). -/
def popMode (sr : Word) : Word :=
  (sr &&& 0xFFFFFFF0#32) ||| ((sr >>> 2) &&& 0x0F#32)

/-! ### Taking an exception (60_exceptions R430 to R440) -/

/-- The code of an exception (60_exceptions R430). -/
def Exc.code : Exc → Word
  | .int => 0#32
  | .adEL => 4#32
  | .adES => 5#32
  | .sys => 8#32
  | .bp => 9#32
  | .ri => 10#32
  | .ov => 12#32

/-- The saved PC with its BD and BT bits (60_exceptions R437). -/
def State.savedPC (s : State) (c : Exc) : Word × Bool × Bool :=
  if c = .int then
    if s.flagB then (s.pc - 4#32, true, s.flagT) else (s.pc, false, false)
  else
    if s.flagDS then (s.curpc - 4#32, true, s.flagDT) else (s.curpc, false, false)

/-- The vector address (60_exceptions R438). -/
def vector (bev : Bool) : Word := if bev then 0xBFC00180#32 else 0x80000080#32

/-- The bits of Cause that exception entry keeps (60_exceptions R436, by CAUSE_ENTRY_MODE). -/
def keptCause : CauseEntryMode → Word
  | .overwrite => 0#32
  | .preserveIP => 0x00000300#32

/-- The stored Cause after entry (60_exceptions R436). -/
def entryCause (mode : CauseEntryMode) (old : Word) (c : Exc) (bd bt : Bool) : Word :=
  (c.code <<< 2) ||| (if bd then 0x80000000#32 else 0#32) ||| (if bt then 0x40000000#32 else 0#32) ||| (old &&& keptCause mode)

/-- Whether an exception records its address in BadVaddr (60_exceptions R439). -/
def Exc.recordsAddress : Exc → Bool
  | .adEL => true
  | .adES => true
  | _ => false

/-- Exception entry (60_exceptions R436), with the bad address of an address error. -/
def State.enter (s : State) (c : Exc) (ba : Word) : State :=
  let saved := s.savedPC c
  { s with
    sr := pushMode s.sr
    cause := entryCause s.cfg.causeEntryMode s.cause c saved.2.1 saved.2.2
    epc := saved.1
    badVaddr := if c.recordsAddress then ba else s.badVaddr
    pc := vector s.bev
    nextpc := vector s.bev + 4#32
    flagB := false
    flagT := false }

/-- `raise E(ba)` inside an instruction (00_scope R18): entry, and then the commit with no write and no load of this step
(10_state R80). -/
def raiseAt (c : Exc) (ba : Word) (s : State) : Result := finish (s.enter c ba)

/-- `raise E()` of an exception without an address. -/
def raise (c : Exc) (s : State) : Result := raiseAt c 0#32 s

/-- The return from an exception: the pop of the mode stack, and nothing else (44_system R394, 60_exceptions R445). -/
def State.returnFromException (s : State) : State := { s with sr := popMode s.sr }

/-! ### The other phases of a step (10_state R72) -/

/-- Phase 1: `curpc <- pc`, the flag copy, and B and T cleared (10_state R73). -/
def State.startStep (s : State) : State :=
  { s with curpc := s.pc, flagDS := s.flagB, flagDT := s.flagT, flagB := false, flagT := false }

/-- The advance of the program counters by a fetch (10_state R74). -/
def State.advance (s : State) : State := { s with pc := s.nextpc, nextpc := s.nextpc + 4#32 }

/-- Whether the poll takes an interrupt (10_state R79). -/
def State.interruptTaken (s : State) : Bool := s.iec && (s.im &&& s.ip != 0#8)

/-- Phase 5: the interrupt poll (10_state R79). -/
def State.poll (s : State) : State := if s.interruptTaken then s.enter .int 0#32 else s

/-- Cycles added to the shared counter (60_exceptions R480). -/
def State.charge (s : State) (n : Nat) : State := { s with cycles := s.cycles + n }

/-- Phases 5 and 6: the poll, then the cycle charge of the step (10_state R79, R81). -/
def State.endStep (s : State) : State := s.poll.charge s.cfg.cyclesPerInstr

end Sys2Proof.Machine
end

