-- ==== Sys2Proof/Machine/Operands.lean ====
section
/-! DEFINITION. Every operand form (30_encoding R187 to R189): immediates, effective addresses, branch and jump targets, the link
value, and the byte merges of the partial-word loads and stores (43_loadstore R360, R364). -/

namespace Sys2Proof.Machine

/-- `sext_16(imm)` (00_scope R14, 30_encoding R187). -/
def sext16 (imm : Half) : Word := imm.signExtend 32

/-- `zext_16(imm)` (00_scope R14, 30_encoding R187). -/
def zext16 (imm : Half) : Word := imm.setWidth 32

/-- `sext_8(v[7:0])` (43_loadstore R354). -/
def sextByte (v : Word) : Word := (v.extractLsb' 0 8).signExtend 32

/-- `sext_16(v[15:0])` (43_loadstore R356). -/
def sextHalf (v : Word) : Word := (v.extractLsb' 0 16).signExtend 32

/-- `imm << 16`, LUI's operand (30_encoding R187). -/
def upperImm (imm : Half) : Word := imm ++ 0#16

/-- The effective address `x[rs] + sext_16(imm)` (43_loadstore R350). -/
def State.ea (s : State) (rs : Reg) (imm : Half) : Word := s.readReg rs + sext16 imm

/-- The low two bits of an address, `ea AND 3` (43_loadstore R360). -/
def lowBits (a : Word) : BitVec 2 := a.extractLsb' 0 2

/-- The aligned word's address, `ea AND 0xFFFFFFFC` (43_loadstore R361, R364). -/
def alignedWord (a : Word) : Word := a &&& 0xFFFFFFFC#32

/-- An address is aligned to a width (20_memory R130). -/
def aligned (w : Width) (a : Word) : Bool :=
  match w with
  | .byte => true
  | .half => !a.getLsbD 0
  | .word => lowBits a == 0#2

/-- The target of a conditional branch, `curpc + 4 + (sext_16(imm) << 2)` (42_branch R311). -/
def State.branchTarget (s : State) (imm : Half) : Word := s.curpc + 4#32 + (sext16 imm <<< 2)

/-- The target of J and JAL, `((curpc + 4) AND 0xF0000000) OR (instr_index << 2)` (42_branch R311). -/
def State.jumpTarget (s : State) (target : BitVec 26) : Word :=
  ((s.curpc + 4#32) &&& 0xF0000000#32) ||| (target.setWidth 32 <<< 2)

/-- The link value, `curpc + 8` (42_branch R312). -/
def State.linkValue (s : State) : Word := s.curpc + 8#32

/-- The shift amount of a variable shift, `x[rs][4:0]` (30_encoding R188). -/
def State.shiftAmount (s : State) (rs : Reg) : Nat := (s.readReg rs).toNat % 32

/-- LWL's merge of the register's value `c` and the word `w` read (43_loadstore R360). -/
def lwlMerge (k : BitVec 2) (c w : Word) : Word :=
  match k with
  | 0#2 => (c &&& 0x00FFFFFF#32) ||| (w <<< 24)
  | 1#2 => (c &&& 0x0000FFFF#32) ||| (w <<< 16)
  | 2#2 => (c &&& 0x000000FF#32) ||| (w <<< 8)
  | _ => w

/-- LWR's merge (43_loadstore R360). -/
def lwrMerge (k : BitVec 2) (c w : Word) : Word :=
  match k with
  | 0#2 => w
  | 1#2 => (c &&& 0xFF000000#32) ||| (w >>> 8)
  | 2#2 => (c &&& 0xFFFF0000#32) ||| (w >>> 16)
  | _ => (c &&& 0xFFFFFF00#32) ||| (w >>> 24)

/-- SWL's merge of the register's value `v` into the word `m` in memory (43_loadstore R364). -/
def swlMerge (k : BitVec 2) (v m : Word) : Word :=
  match k with
  | 0#2 => (m &&& 0xFFFFFF00#32) ||| (v >>> 24)
  | 1#2 => (m &&& 0xFFFF0000#32) ||| (v >>> 16)
  | 2#2 => (m &&& 0xFF000000#32) ||| (v >>> 8)
  | _ => v

/-- SWR's merge (43_loadstore R364). -/
def swrMerge (k : BitVec 2) (v m : Word) : Word :=
  match k with
  | 0#2 => v
  | 1#2 => (m &&& 0x000000FF#32) ||| (v <<< 8)
  | 2#2 => (m &&& 0x0000FFFF#32) ||| (v <<< 16)
  | _ => (m &&& 0x00FFFFFF#32) ||| (v <<< 24)

end Sys2Proof.Machine
end

