-- ==== Sys2Proof/Machine/Flags.lean ====
section
/-! DEFINITION. The machine has no flags (10_state R43). This file holds what decides a trap or a branch: the two overflow tests
(40_alu R230, R232) and the comparisons (40_alu R236 to R239, 42_branch R317 to R324). -/

namespace Sys2Proof.Machine

/-- The overflow test of an addition with result `r = a + b`: `((a XOR r) AND (b XOR r))[31]` (40_alu R230). -/
def addOverflow (a b : Word) : Bool := ((a ^^^ (a + b)) &&& (b ^^^ (a + b))).getLsbD 31

/-- The overflow test of a subtraction with result `r = a - b`: `((a XOR b) AND (a XOR r))[31]` (40_alu R232). -/
def subOverflow (a b : Word) : Bool := ((a ^^^ b) &&& (a ^^^ (a - b))).getLsbD 31

/-- `signed(a) < signed(b)` (40_alu R236, R238). -/
def signedLt (a b : Word) : Bool := a.toInt < b.toInt

/-- `unsigned(a) < unsigned(b)` (40_alu R237, R239). -/
def unsignedLt (a b : Word) : Bool := a.toNat < b.toNat

/-- The word 1 or 0 of a condition (40_alu R236). -/
def boolWord (b : Bool) : Word := if b then 1#32 else 0#32

/-- `signed(a) <= 0` (42_branch R319). -/
def lessEqualZero (a : Word) : Bool := a.toInt ≤ 0

/-- `signed(a) > 0` (42_branch R320). -/
def greaterZero (a : Word) : Bool := 0 < a.toInt

/-- `a[31] = 1` (42_branch R321, R323). -/
def negative (a : Word) : Bool := a.getLsbD 31

end Sys2Proof.Machine
end

