-- ==== Sys2Proof/Machine/Alu.lean ====
section
/-! DEFINITION. The meanings of the arithmetic, comparison and logic instructions (40_alu R230 to R247). Operands are the committed
registers (10_state R76); the result is this step's register write. -/

namespace Sys2Proof.Machine

/-- An addition that traps on signed overflow and otherwise writes its sum (40_alu R230, R234). -/
def addTrapping (dst : Reg) (a b : Word) (s : State) : Result :=
  if addOverflow a b then raise .ov s else writeBack dst (a + b) s

/-- ADD (40_alu R230). -/
def execAdd (rd rs rt : Reg) (s : State) : Result := addTrapping rd (s.readReg rs) (s.readReg rt) s

/-- ADDU (40_alu R231). -/
def execAddu (rd rs rt : Reg) (s : State) : Result := writeBack rd (s.readReg rs + s.readReg rt) s

/-- SUB (40_alu R232). -/
def execSub (rd rs rt : Reg) (s : State) : Result :=
  if subOverflow (s.readReg rs) (s.readReg rt) then raise .ov s
  else writeBack rd (s.readReg rs - s.readReg rt) s

/-- SUBU (40_alu R233). -/
def execSubu (rd rs rt : Reg) (s : State) : Result := writeBack rd (s.readReg rs - s.readReg rt) s

/-- ADDI (40_alu R234). -/
def execAddi (rt rs : Reg) (imm : Half) (s : State) : Result := addTrapping rt (s.readReg rs) (sext16 imm) s

/-- ADDIU (40_alu R235). -/
def execAddiu (rt rs : Reg) (imm : Half) (s : State) : Result := writeBack rt (s.readReg rs + sext16 imm) s

/-- SLT (40_alu R236). -/
def execSlt (rd rs rt : Reg) (s : State) : Result := writeBack rd (boolWord (signedLt (s.readReg rs) (s.readReg rt))) s

/-- SLTU (40_alu R237). -/
def execSltu (rd rs rt : Reg) (s : State) : Result := writeBack rd (boolWord (unsignedLt (s.readReg rs) (s.readReg rt))) s

/-- SLTI (40_alu R238). -/
def execSlti (rt rs : Reg) (imm : Half) (s : State) : Result := writeBack rt (boolWord (signedLt (s.readReg rs) (sext16 imm))) s

/-- SLTIU (40_alu R239). -/
def execSltiu (rt rs : Reg) (imm : Half) (s : State) : Result :=
  writeBack rt (boolWord (unsignedLt (s.readReg rs) (sext16 imm))) s

/-- AND (40_alu R240). -/
def execAnd (rd rs rt : Reg) (s : State) : Result := writeBack rd (s.readReg rs &&& s.readReg rt) s

/-- OR (40_alu R241). -/
def execOr (rd rs rt : Reg) (s : State) : Result := writeBack rd (s.readReg rs ||| s.readReg rt) s

/-- XOR (40_alu R242). -/
def execXor (rd rs rt : Reg) (s : State) : Result := writeBack rd (s.readReg rs ^^^ s.readReg rt) s

/-- NOR (40_alu R243). -/
def execNor (rd rs rt : Reg) (s : State) : Result := writeBack rd (~~~(s.readReg rs ||| s.readReg rt)) s

/-- ANDI (40_alu R244). -/
def execAndi (rt rs : Reg) (imm : Half) (s : State) : Result := writeBack rt (s.readReg rs &&& zext16 imm) s

/-- ORI (40_alu R245). -/
def execOri (rt rs : Reg) (imm : Half) (s : State) : Result := writeBack rt (s.readReg rs ||| zext16 imm) s

/-- XORI (40_alu R246). -/
def execXori (rt rs : Reg) (imm : Half) (s : State) : Result := writeBack rt (s.readReg rs ^^^ zext16 imm) s

/-- LUI (40_alu R247). -/
def execLui (rt : Reg) (imm : Half) (s : State) : Result := writeBack rt (upperImm imm) s

end Sys2Proof.Machine
end

