-- ==== Sys2Proof/Machine/Branch.lean ====
section
/-! DEFINITION. The meanings of the jumps and branches (42_branch R310 to R324) and of the REGIMM words with other `rt` values
(30_encoding R192). Each has its delay slot: the instruction at `pc` executes next (42_branch R310). -/

namespace Sys2Proof.Machine

/-- The delayed transfer (42_branch R310): B is set; if taken, T is set and the target is put in `nextpc`. -/
def State.transfer (s : State) (taken : Bool) (target : Word) : State :=
  if taken then { s with flagB := true, flagT := true, nextpc := target } else { s with flagB := true }

/-- A branch or jump without a link (42_branch R310). -/
def branch (taken : Bool) (target : Word) (s : State) : Result := finish (s.transfer taken target)

/-- A branch or jump that writes the link into a register, taken or not (42_branch R310, R312). -/
def branchLink (link : Reg) (taken : Bool) (target : Word) (s : State) : Result :=
  writeBack link s.linkValue (s.transfer taken target)

/-- J (42_branch R313). -/
def execJ (target : BitVec 26) (s : State) : Result := branch true (s.jumpTarget target) s

/-- JR (42_branch R314); a misaligned target raises its exception at its own fetch. -/
def execJr (rs : Reg) (s : State) : Result := branch true (s.readReg rs) s

/-- JAL (42_branch R315). -/
def execJal (target : BitVec 26) (s : State) : Result := branchLink 31#5 true (s.jumpTarget target) s

/-- JALR (42_branch R316); rs is read before the link is written. -/
def execJalr (rd rs : Reg) (s : State) : Result := branchLink rd true (s.readReg rs) s

/-- BEQ (42_branch R317). -/
def execBeq (rs rt : Reg) (imm : Half) (s : State) : Result :=
  branch (s.readReg rs == s.readReg rt) (s.branchTarget imm) s

/-- BNE (42_branch R318). -/
def execBne (rs rt : Reg) (imm : Half) (s : State) : Result :=
  branch (s.readReg rs != s.readReg rt) (s.branchTarget imm) s

/-- BLEZ (42_branch R319). -/
def execBlez (rs : Reg) (imm : Half) (s : State) : Result := branch (lessEqualZero (s.readReg rs)) (s.branchTarget imm) s

/-- BGTZ (42_branch R320). -/
def execBgtz (rs : Reg) (imm : Half) (s : State) : Result := branch (greaterZero (s.readReg rs)) (s.branchTarget imm) s

/-- The REGIMM branch on a negative register (42_branch R321). -/
def branchNegative (rs : Reg) (imm : Half) (s : State) : Result := branch (negative (s.readReg rs)) (s.branchTarget imm) s

/-- The REGIMM branch on a register that is not negative (42_branch R322). -/
def branchNotNegative (rs : Reg) (imm : Half) (s : State) : Result := branch (!negative (s.readReg rs)) (s.branchTarget imm) s

/-- BLTZ (42_branch R321). -/
def execBltz (rs : Reg) (imm : Half) (s : State) : Result := branchNegative rs imm s

/-- BGEZ (42_branch R322). -/
def execBgez (rs : Reg) (imm : Half) (s : State) : Result := branchNotNegative rs imm s

/-- BLTZAL (42_branch R323); the condition is of the old rs. -/
def execBltzal (rs : Reg) (imm : Half) (s : State) : Result :=
  branchLink 31#5 (negative (s.readReg rs)) (s.branchTarget imm) s

/-- BGEZAL (42_branch R324); the condition is of the old rs. -/
def execBgezal (rs : Reg) (imm : Half) (s : State) : Result :=
  branchLink 31#5 (!negative (s.readReg rs)) (s.branchTarget imm) s

/-- REGIMM with `rt` = 0x02: executes as BLTZ, no link (30_encoding R192). -/
def execBltzRt02 (rs : Reg) (imm : Half) (s : State) : Result := branchNegative rs imm s

/-- REGIMM with `rt` = 0x03: executes as BGEZ, no link (30_encoding R192). -/
def execBgezRt03 (rs : Reg) (imm : Half) (s : State) : Result := branchNotNegative rs imm s

/-- REGIMM with `rt` = 0x04: executes as BLTZ, no link (30_encoding R192). -/
def execBltzRt04 (rs : Reg) (imm : Half) (s : State) : Result := branchNegative rs imm s

/-- REGIMM with `rt` = 0x05: executes as BGEZ, no link (30_encoding R192). -/
def execBgezRt05 (rs : Reg) (imm : Half) (s : State) : Result := branchNotNegative rs imm s

/-- REGIMM with `rt` = 0x06: executes as BLTZ, no link (30_encoding R192). -/
def execBltzRt06 (rs : Reg) (imm : Half) (s : State) : Result := branchNegative rs imm s

/-- REGIMM with `rt` = 0x07: executes as BGEZ, no link (30_encoding R192). -/
def execBgezRt07 (rs : Reg) (imm : Half) (s : State) : Result := branchNotNegative rs imm s

/-- REGIMM with `rt` = 0x08: executes as BLTZ, no link (30_encoding R192). -/
def execBltzRt08 (rs : Reg) (imm : Half) (s : State) : Result := branchNegative rs imm s

/-- REGIMM with `rt` = 0x09: executes as BGEZ, no link (30_encoding R192). -/
def execBgezRt09 (rs : Reg) (imm : Half) (s : State) : Result := branchNotNegative rs imm s

/-- REGIMM with `rt` = 0x0A: executes as BLTZ, no link (30_encoding R192). -/
def execBltzRt0A (rs : Reg) (imm : Half) (s : State) : Result := branchNegative rs imm s

/-- REGIMM with `rt` = 0x0B: executes as BGEZ, no link (30_encoding R192). -/
def execBgezRt0B (rs : Reg) (imm : Half) (s : State) : Result := branchNotNegative rs imm s

/-- REGIMM with `rt` = 0x0C: executes as BLTZ, no link (30_encoding R192). -/
def execBltzRt0C (rs : Reg) (imm : Half) (s : State) : Result := branchNegative rs imm s

/-- REGIMM with `rt` = 0x0D: executes as BGEZ, no link (30_encoding R192). -/
def execBgezRt0D (rs : Reg) (imm : Half) (s : State) : Result := branchNotNegative rs imm s

/-- REGIMM with `rt` = 0x0E: executes as BLTZ, no link (30_encoding R192). -/
def execBltzRt0E (rs : Reg) (imm : Half) (s : State) : Result := branchNegative rs imm s

/-- REGIMM with `rt` = 0x0F: executes as BGEZ, no link (30_encoding R192). -/
def execBgezRt0F (rs : Reg) (imm : Half) (s : State) : Result := branchNotNegative rs imm s

/-- REGIMM with `rt` = 0x12: executes as BLTZ, no link (30_encoding R192). -/
def execBltzRt12 (rs : Reg) (imm : Half) (s : State) : Result := branchNegative rs imm s

/-- REGIMM with `rt` = 0x13: executes as BGEZ, no link (30_encoding R192). -/
def execBgezRt13 (rs : Reg) (imm : Half) (s : State) : Result := branchNotNegative rs imm s

/-- REGIMM with `rt` = 0x14: executes as BLTZ, no link (30_encoding R192). -/
def execBltzRt14 (rs : Reg) (imm : Half) (s : State) : Result := branchNegative rs imm s

/-- REGIMM with `rt` = 0x15: executes as BGEZ, no link (30_encoding R192). -/
def execBgezRt15 (rs : Reg) (imm : Half) (s : State) : Result := branchNotNegative rs imm s

/-- REGIMM with `rt` = 0x16: executes as BLTZ, no link (30_encoding R192). -/
def execBltzRt16 (rs : Reg) (imm : Half) (s : State) : Result := branchNegative rs imm s

/-- REGIMM with `rt` = 0x17: executes as BGEZ, no link (30_encoding R192). -/
def execBgezRt17 (rs : Reg) (imm : Half) (s : State) : Result := branchNotNegative rs imm s

/-- REGIMM with `rt` = 0x18: executes as BLTZ, no link (30_encoding R192). -/
def execBltzRt18 (rs : Reg) (imm : Half) (s : State) : Result := branchNegative rs imm s

/-- REGIMM with `rt` = 0x19: executes as BGEZ, no link (30_encoding R192). -/
def execBgezRt19 (rs : Reg) (imm : Half) (s : State) : Result := branchNotNegative rs imm s

/-- REGIMM with `rt` = 0x1A: executes as BLTZ, no link (30_encoding R192). -/
def execBltzRt1A (rs : Reg) (imm : Half) (s : State) : Result := branchNegative rs imm s

/-- REGIMM with `rt` = 0x1B: executes as BGEZ, no link (30_encoding R192). -/
def execBgezRt1B (rs : Reg) (imm : Half) (s : State) : Result := branchNotNegative rs imm s

/-- REGIMM with `rt` = 0x1C: executes as BLTZ, no link (30_encoding R192). -/
def execBltzRt1C (rs : Reg) (imm : Half) (s : State) : Result := branchNegative rs imm s

/-- REGIMM with `rt` = 0x1D: executes as BGEZ, no link (30_encoding R192). -/
def execBgezRt1D (rs : Reg) (imm : Half) (s : State) : Result := branchNotNegative rs imm s

/-- REGIMM with `rt` = 0x1E: executes as BLTZ, no link (30_encoding R192). -/
def execBltzRt1E (rs : Reg) (imm : Half) (s : State) : Result := branchNegative rs imm s

/-- REGIMM with `rt` = 0x1F: executes as BGEZ, no link (30_encoding R192). -/
def execBgezRt1F (rs : Reg) (imm : Half) (s : State) : Result := branchNotNegative rs imm s

end Sys2Proof.Machine
end

