-- ==== Sys2Proof/Machine/Scheduler.lean ====
section
/-! DEFINITION. The Scheduler (60_exceptions section 6), the interrupt line (20_memory R123), and the turns of the external
collaborators (60_exceptions R483, 70_reset_and_hazards R580). -/

namespace Sys2Proof.Machine

/-- `triggerInterrupt(n)`: sets bit n of I_STAT; a number outside 0..15 is refused (20_memory R123). -/
def triggerInterrupt (n : Nat) (s : State) : Except Refusal State :=
  if n < 16 then .ok { s with iStat := s.iStat ||| BitVec.twoPow 16 n } else .error .interruptNumberOutOfRange

/-- `scheduleEvent(delta, payload)` (60_exceptions R482): the target is exact; at or beyond the sentinel it is refused. -/
def scheduleEvent (delta : Nat) (p : Payload) (s : State) : Except Refusal State :=
  if s.cycles + delta ≥ Config.maxCycle then .error .eventAtOrBeyondSentinel
  else .ok { s with
    queue := s.queue ++ [⟨s.cycles + delta, s.seq, p⟩]
    seq := s.seq + 1
    nextWake := min s.nextWake (s.cycles + delta) }

/-- `scheduleInterrupt(delta, irq)` (60_exceptions R483). -/
def scheduleInterrupt (delta n : Nat) (s : State) : Except Refusal State := scheduleEvent delta (.irq n) s

/-- One call of an external collaborator (70_reset_and_hazards R580). -/
def runCall (c : CollabCall) (s : State) : Except Refusal State :=
  match c with
  | .triggerInterrupt n => triggerInterrupt n s
  | .scheduleEvent delta k => scheduleEvent delta (.ext k) s
  | .scheduleInterrupt delta n => scheduleInterrupt delta n s

/-- The calls of one turn, in order. -/
def runCalls : List CollabCall → State → Except Refusal State
  | [], s => .ok s
  | c :: cs, s =>
    match runCall c s with
    | .ok s' => runCalls cs s'
    | .error r => .error r

/-- A turn of an external collaborator: it takes the calls the script holds for this turn, none where the script has ended
(60_exceptions R483, log 7). -/
def collaboratorTurn (s : State) : Except Refusal State :=
  match s.script with
  | [] => .ok s
  | calls :: rest => runCalls calls { s with script := rest }

/-- `draw()`: the next free value, with the counter advanced (00_scope R18, log 6). -/
def State.draw (s : State) : Word × State := (Config.drawWord s.draws, { s with draws := s.draws + 1 })

/-- An entry fires before another: by least `(target, seq)` (60_exceptions R481, R484). -/
def Event.before (a b : Event) : Bool := a.target < b.target || (a.target == b.target && a.seq < b.seq)

/-- The entry with the least `(target, seq)` of a list that starts with `e`. -/
def leastFrom : Event → List Event → Event
  | e, [] => e
  | e, f :: fs => if f.before e then leastFrom f fs else leastFrom e fs

/-- The entry the Scheduler looks at next: the least of the queue, where the queue holds one (60_exceptions R484). -/
def leastEvent : List Event → Option Event
  | [] => none
  | e :: es => some (leastFrom e es)

/-- The least target in the queue; the sentinel's where the queue holds nothing (60_exceptions R485). -/
def leastTarget (q : List Event) : Nat :=
  match leastEvent q with
  | some e => e.target
  | none => Config.maxCycle

/-- The event that is due: the least entry, if its target is reached and it is not the sentinel, which never fires
(60_exceptions R481, R484). -/
def State.dueEvent (s : State) : Option Event :=
  match leastEvent s.queue with
  | some e => if e.payload ≠ .sentinel ∧ e.target ≤ s.cycles then some e else none
  | none => none

/-- What an event does (60_exceptions R483). -/
def firePayload (p : Payload) (s : State) : Except Refusal State :=
  match p with
  | .irq n => triggerInterrupt n s
  | .ext _ => collaboratorTurn s
  | .sentinel => .ok s

/-- The queue with an entry removed, and the next-wake value with it (60_exceptions R484, R485). -/
def State.dequeue (s : State) (e : Event) : State :=
  { s with queue := s.queue.erase e, nextWake := leastTarget (s.queue.erase e) }

/-- One turn of `handleEvents` (60_exceptions R484): the entry is removed before it fires, so that it fires once. The next-wake
value follows the queue all along (R485): a callback's own events lower it, so it ends as the least target in the queue. -/
def fireEvent (e : Event) (s : State) : Result :=
  match firePayload e.payload (s.dequeue e) with
  | .ok t => .next t
  | .error r => .refused r

end Sys2Proof.Machine
end

