-- ==== Sys2Proof/Machine/Dma.lean ====
section
/-! DEFINITION. The DMA controller (60_exceptions section 7): its registers, the activation pass, the three algorithms, and DICR. -/

namespace Sys2Proof.Machine

/-! ### DICR (60_exceptions R507 to R511) -/

/-- `masterValue` (60_exceptions R510). -/
def masterValue (dicr : Word) : Bool :=
  dicr.getLsbD 15 || (dicr.getLsbD 23 && (dicr.extractLsb' 16 7 &&& dicr.extractLsb' 24 7 != 0#7))

/-- DICR with its bit 31 set to the master value (60_exceptions R511). -/
def withMaster (dicr : Word) : Word :=
  (dicr &&& 0x7FFFFFFF#32) ||| (if masterValue dicr then 0x80000000#32 else 0#32)

/-- `updateMaster()` on a new value of DICR: bit 31 is recomputed, and a change from 0 to 1 schedules interrupt 3 after
DMA_IRQ_DELAY cycles (60_exceptions R511, R512). -/
def updateMaster (dicr : Word) (s : State) : Except Refusal State :=
  if !dicr.getLsbD 31 && masterValue dicr then
    scheduleInterrupt s.cfg.dmaIrqDelay 3 { s with dicr := withMaster dicr }
  else .ok { s with dicr := withMaster dicr }

/-- A CPU write to DICR before the master flag is recomputed (60_exceptions R508): bits 5:0 and 23:15 are stored, a 1 in bits
30:24 clears, bits 14:6 stay zero, bit 31 is not written. -/
def dicrWritten (old v : Word) : Word :=
  (v &&& 0x00FF803F#32) ||| (old &&& ~~~v &&& 0x7F000000#32) ||| (old &&& 0x80000000#32)

/-! ### Channel registers (60_exceptions R501 to R505, R509) -/

/-- The registers of channel n with MADR, BCR or CHCR replaced. -/
def State.setChannel (s : State) (n : Fin 7) (c : Channel) : State := { s with chans := s.chans.set n.val c n.isLt }

/-- The sync mode, CHCR bits 10:9 (60_exceptions R505). -/
def Channel.sync (c : Channel) : BitVec 2 := c.chcr.extractLsb' 9 2
/-- The direction, CHCR bit 0: true from RAM to the device (60_exceptions R505). -/
def Channel.fromRam (c : Channel) : Bool := c.chcr.getLsbD 0
/-- The step, CHCR bit 1: true for -4 (60_exceptions R505). -/
def Channel.stepsDown (c : Channel) : Bool := c.chcr.getLsbD 1

/-- Activation (60_exceptions R509): start, and a sync mode other than Manual or the trigger. -/
def Channel.active (c : Channel) : Bool := c.chcr.getLsbD 24 && (c.sync != 0#2 || c.chcr.getLsbD 28)

/-- A 16-bit count, read as 0x10000 where it is zero (60_exceptions R504). -/
def countOf (h : Half) : Nat := if h = 0#16 then 0x10000 else h.toNat

/-- The number of words of a block copy or an ordering-table clear (60_exceptions R504): `BS` in Manual sync, `BS * BA` in
Request sync. -/
def Channel.wordCount (c : Channel) : Nat :=
  if c.sync = 0#2 then countOf (c.bcr.extractLsb' 0 16)
  else countOf (c.bcr.extractLsb' 0 16) * countOf (c.bcr.extractLsb' 16 16)

/-! ### RAM words and data ports (60_exceptions R503, R514) -/

/-- The RAM byte offset a DMA address reaches: word-aligned and inside RAM (60_exceptions R503). -/
def dmaOffset (a : Word) : Nat := (a &&& 0x001FFFFC#32).toNat

/-- `RAMword(a)` of a DMA address (60_exceptions R516). -/
def State.ramWord (s : State) (a : Word) : Word := Memory.readVal s.mem (dmaOffset a) .word

/-- A write of `RAMword(a)` (60_exceptions R516). -/
def State.setRamWord (s : State) (a v : Word) : State := { s with mem := Memory.writeVal s.mem (dmaOffset a) v .word }

/-- `PortWrite(n, w)`: recorded, then the collaborator's turn (60_exceptions R514, log 11). -/
def portWrite (n : Fin 7) (v : Word) (s : State) : Except Refusal State :=
  collaboratorTurn { s with extLog := .portWrite n.val v :: s.extLog }

/-- `PortRead(n)`: a draw, then the collaborator's turn (60_exceptions R514, log 11). -/
def portRead (_ : Fin 7) (s : State) : Except Refusal (Word × State) :=
  match collaboratorTurn s.draw.2 with
  | .ok t => .ok (s.draw.1, t)
  | .error r => .error r

/-! ### The algorithms (60_exceptions R513, R516 to R518) -/

/-- One word of a block copy at a DMA address (60_exceptions R516). -/
def copyWord (n : Fin 7) (fromRam : Bool) (addr : Word) (s : State) : Except Refusal State :=
  if fromRam then portWrite n (s.ramWord addr) s
  else
    match portRead n s with
    | .ok (v, t) => .ok (t.setRamWord addr v)
    | .error r => .error r

/-- Block copy of a number of words from an address (60_exceptions R516). -/
def blockCopy (n : Fin 7) (fromRam down : Bool) : Nat → Word → State → Except Refusal State
  | 0, _, s => .ok s
  | k + 1, addr, s =>
    match copyWord n fromRam addr s with
    | .ok t => blockCopy n fromRam down k (if down then addr - 4#32 else addr + 4#32) t
    | .error r => .error r

/-- The word the ordering-table clear writes at an address: the marker at the last, else the address below
(60_exceptions R517). -/
def otcWord (last : Bool) (addr : Word) : Word :=
  if last then 0x00FFFFFF#32 else (addr - 4#32) &&& 0x001FFFFF#32

/-- Ordering-table clear of a number of words from an address downward (60_exceptions R517). -/
def orderingTable : Nat → Word → State → State
  | 0, _, s => s
  | k + 1, addr, s => orderingTable k (addr - 4#32) (s.setRamWord addr (otcWord (k == 0) addr))

/-- The payload words of a node: the k-th to the last are handed to channel 2's port (60_exceptions R518). -/
def sendPayload (node : Word) : Nat → Nat → State → Except Refusal State
  | 0, _, s => .ok s
  | left + 1, k, s =>
    match portWrite 2 (s.ramWord (node + BitVec.ofNat 32 (4 * k))) s with
    | .ok t => sendPayload node left (k + 1) t
    | .error r => .error r

/-- The number of word addresses in RAM, which bounds a walk that never comes back to a node (log 12). -/
def ramWords : Nat := 0x80000

/-- Linked-list walk from a node, with the nodes already visited (60_exceptions R518). A node seen again is refused. The first
argument bounds the walk; a walk without a revisit has at most `ramWords` nodes, so it never runs out first (log 12). -/
def linkedList : Nat → List Nat → Word → State → Except Refusal State
  | 0, _, _, _ => .error .linkedListNeverTerminates
  | fuel + 1, visited, addr, s =>
    if dmaOffset addr ∈ visited then .error .linkedListNeverTerminates
    else
      let h := s.ramWord addr
      match sendPayload (addr &&& 0x001FFFFC#32) (h.extractLsb' 24 8).toNat 1 s with
      | .error r => .error r
      | .ok t =>
        if h.getLsbD 23 then .ok t
        else linkedList fuel (dmaOffset addr :: visited) (h &&& 0x003FFFFF#32) t

/-- The algorithm a channel runs at activation, by channel and sync mode (60_exceptions R513). -/
def runChannel (n : Fin 7) (s : State) : Except Refusal State :=
  let c := s.chans[n]
  if c.sync = 0#2 ∨ c.sync = 1#2 then
    if n = 6 then .ok (orderingTable c.wordCount c.madr s)
    else blockCopy n c.fromRam c.stepsDown c.wordCount c.madr s
  else if c.sync = 2#2 ∧ n = 2 ∧ c.fromRam then linkedList (ramWords + 1) [] c.madr s
  else .error .dmaModeNotSupported

/-- DICR with the pending bit of channel n set, if its enable bit is set (60_exceptions R519). -/
def dicrCompleted (n : Fin 7) (dicr : Word) : Word :=
  if dicr.getLsbD (16 + n.val) then dicr ||| BitVec.twoPow 32 (24 + n.val) else dicr

/-- `complete(n)` (60_exceptions R519): start and trigger are cleared, the pending bit is set if enabled, the master flag is
recomputed. -/
def completeChannel (n : Fin 7) (s : State) : Except Refusal State :=
  let c := s.chans[n]
  updateMaster (dicrCompleted n s.dicr) (s.setChannel n { c with chcr := c.chcr &&& 0xEEFFFFFF#32 })

/-- One channel's turn in the activation pass (60_exceptions R515). -/
def channelPass (n : Fin 7) (s : State) : Except Refusal State :=
  if s.chans[n].active then
    match runChannel n s with
    | .ok t => completeChannel n t
    | .error r => .error r
  else .ok s

/-- The channels of a list, one after the other. -/
def channelPasses : List (Fin 7) → State → Except Refusal State
  | [], s => .ok s
  | n :: ns, s =>
    match channelPass n s with
    | .ok t => channelPasses ns t
    | .error r => .error r

/-- The activation pass: the channels in ascending order (60_exceptions R515). -/
def activationPass (s : State) : Except Refusal State := channelPasses [0, 1, 2, 3, 4, 5, 6] s

/-! ### Register access (60_exceptions R502) -/

/-- A word of the DMA register window (60_exceptions R502). -/
inductive DmaReg where
  | madr (n : Fin 7)
  | bcr (n : Fin 7)
  | chcr (n : Fin 7)
  | dpcr
  | dicr
  /-- A word that reads 0 and ignores writes. -/
  | unused
  deriving DecidableEq, Repr

/-- The register at a byte offset of the window (60_exceptions R502). -/
def dmaRegAt (o : Nat) : DmaReg :=
  if h : o / 16 < 7 then
    match o % 16 with
    | 0 => .madr ⟨o / 16, h⟩
    | 4 => .bcr ⟨o / 16, h⟩
    | 8 => .chcr ⟨o / 16, h⟩
    | _ => .unused
  else if o = 0x70 then .dpcr
  else if o = 0x74 then .dicr
  else .unused

/-- The value of a word of the window (60_exceptions R502). -/
def State.dmaRegValue (s : State) : DmaReg → Word
  | .madr n => s.chans[n].madr
  | .bcr n => s.chans[n].bcr
  | .chcr n => s.chans[n].chcr
  | .dpcr => s.dpcr
  | .dicr => s.dicr
  | .unused => 0#32

/-- `dmaRead(o, n)`: only 32-bit accesses (60_exceptions R502). -/
def dmaRead (o : Nat) (w : Width) (s : State) : Except Refusal Word :=
  if w = .word then .ok (s.dmaRegValue (dmaRegAt o)) else .error .narrowAccessToDma

/-- A 32-bit write to a word of the window (60_exceptions R502, R508, R515). -/
def dmaRegWrite (r : DmaReg) (v : Word) (s : State) : Except Refusal State :=
  match r with
  | .madr n => .ok (s.setChannel n { s.chans[n] with madr := v })
  | .bcr n => .ok (s.setChannel n { s.chans[n] with bcr := v })
  | .chcr n => activationPass (s.setChannel n { s.chans[n] with chcr := v })
  | .dpcr => .ok { s with dpcr := v }
  | .dicr => updateMaster (dicrWritten s.dicr v) s
  | .unused => .ok s

/-- `dmaWrite(o, n, v)`: only 32-bit accesses (60_exceptions R502). -/
def dmaWrite (o : Nat) (w : Width) (v : Word) (s : State) : Except Refusal State :=
  if w = .word then dmaRegWrite (dmaRegAt o) v s else .error .narrowAccessToDma

end Sys2Proof.Machine
end

