-- ==== Sys2Proof/Machine/Bus.lean ====
section
/-! DEFINITION. The Bus (20_memory): resolution of an address, the interrupt controller's registers, and the data read, data
write and fetch primitives that every instruction uses. -/

namespace Sys2Proof.Machine

/-- What a virtual address reaches (20_memory R111), with the byte offset inside it. -/
inductive Region where
  | ram (o : Nat)
  | rom (o : Nat)
  | scratch (o : Nat)
  | irqCtl (o : Nat)
  | dmaReg (o : Nat)
  | ext (name : String) (o : Nat)
  | unmapped
  deriving DecidableEq, Repr

/-- The segment, address bits 31:29 (20_memory R102). -/
def segmentOf (a : Word) : BitVec 3 := a.extractLsb' 29 3

/-- The mask of a segment (20_memory R103). -/
def segmentMask (g : BitVec 3) : Word :=
  match g with
  | 4#3 => 0x7FFFFFFF#32
  | 5#3 => 0x1FFFFFFF#32
  | _ => 0xFFFFFFFF#32

/-- The physical address (20_memory R103). -/
def phys (a : Word) : Nat := (a &&& segmentMask (segmentOf a)).toNat

/-- An address lies in a window. -/
def inWindow (p base size : Nat) : Bool := base ≤ p && p < base + size

/-- The external range an address lies in, and the offset in it (20_memory R110). -/
def findRange (p : Nat) : List ExtRange → Option (String × Nat)
  | [] => none
  | r :: rs => if inWindow p r.base r.size then some (r.name, p - r.base) else findRange p rs

/-- `resolve(a)` (20_memory R111), in its order; the scratchpad through KSEG1 is refused (R119). -/
def resolve (cfg : Config) (a : Word) : Except Refusal Region :=
  let p := phys a
  if p < cfg.ramWindow then .ok (.ram (p % Config.ramSize))
  else if inWindow p Config.romBase Config.romSize then .ok (.rom (p - Config.romBase))
  else if inWindow p Config.scratchBase Config.scratchSize then
    if segmentOf a = 5#3 then .error .scratchpadThroughKseg1 else .ok (.scratch (p - Config.scratchBase))
  else if inWindow p Config.irqBase 8 then .ok (.irqCtl (p - Config.irqBase))
  else if inWindow p Config.dmaBase 0x80 then .ok (.dmaReg (p - Config.dmaBase))
  else
    match findRange p cfg.externalRanges with
    | some (name, o) => .ok (.ext name o)
    | none => .ok .unmapped

/-! ### I_STAT and I_MASK (20_memory R125) -/

/-- `irqRead(o, n)`: 8-bit accesses are refused, the upper halves read 0 (20_memory R125). -/
def irqRead (o : Nat) (w : Width) (s : State) : Except Refusal Word :=
  if w = .byte then .error .byteAccessToInterruptController
  else if o = 0 then .ok (s.iStat.setWidth 32)
  else if o = 4 then .ok (s.iMask.setWidth 32)
  else .ok 0#32

/-- `irqWrite(o, n, v)`: I_STAT is acknowledged by AND, I_MASK replaced, the upper halves ignored (20_memory R120, R121, R125). -/
def irqWrite (o : Nat) (w : Width) (v : Word) (s : State) : Except Refusal State :=
  if w = .byte then .error .byteAccessToInterruptController
  else if o = 0 then .ok { s with iStat := s.iStat &&& v.extractLsb' 0 16 }
  else if o = 4 then .ok { s with iMask := v.extractLsb' 0 16 }
  else .ok s

/-! ### External ranges (20_memory R118, log 11) -/

/-- A read of an external range: recorded, answered by a draw of the access width, then the collaborator's turn
(20_memory R113, R118). -/
def extRead (name : String) (o : Nat) (w : Width) (s : State) : Except Refusal (Word × State) :=
  match collaboratorTurn { s.draw.2 with extLog := .read name o w :: s.extLog } with
  | .ok t => .ok (w.trunc s.draw.1, t)
  | .error r => .error r

/-- A write to an external range: recorded, then the collaborator's turn (20_memory R114, R118). -/
def extWrite (name : String) (o : Nat) (w : Width) (v : Word) (s : State) : Except Refusal State :=
  collaboratorTurn { s with extLog := .write name o w (w.trunc v) :: s.extLog }

/-! ### Data accesses and fetch (20_memory R113 to R117) -/

/-- A data read of a region, after the access has been charged (20_memory R113). -/
def readRegion (r : Region) (w : Width) (s : State) : Except Refusal (Word × State) :=
  match r with
  | .ram o => .ok (Memory.readVal s.mem o w, s)
  | .scratch o => .ok (Memory.readVal s.mem (Config.scratchBase + o) w, s)
  | .rom o => .ok (Memory.readVal s.mem (Config.romBase + o) w, s.charge s.cfg.romExtraCycles)
  | .irqCtl o => (irqRead o w s).map (·, s)
  | .dmaReg o => (dmaRead o w s).map (·, s)
  | .ext name o => extRead name o w s
  | .unmapped => .ok (0#32, s)

/-- A data write to a region, after the access has been charged (20_memory R114). -/
def writeRegion (r : Region) (w : Width) (v : Word) (s : State) : Except Refusal State :=
  match r with
  | .ram o => .ok { s with mem := Memory.writeVal s.mem o v w }
  | .scratch o => .ok { s with mem := Memory.writeVal s.mem (Config.scratchBase + o) v w }
  | .rom _ => .ok (s.charge s.cfg.romExtraCycles)
  | .irqCtl o => irqWrite o w v s
  | .dmaReg o => dmaWrite o w v s
  | .ext name o => extWrite name o w v s
  | .unmapped => .ok s

/-- `MemRead(a, n)` (20_memory R113); an isolated read answers 0 before any region is decoded (R116). -/
def memRead (a : Word) (w : Width) (s : State) : Except Refusal (Word × State) :=
  if s.isc then .ok (0#32, s.charge s.cfg.dataAccessCycles)
  else
    match resolve s.cfg a with
    | .ok r => readRegion r w (s.charge s.cfg.dataAccessCycles)
    | .error e => .error e

/-- `MemWrite(a, n, v)` (20_memory R114); an isolated write is discarded before any region is decoded (R116). -/
def memWrite (a : Word) (w : Width) (v : Word) (s : State) : Except Refusal State :=
  if s.isc then .ok (s.charge s.cfg.dataAccessCycles)
  else
    match resolve s.cfg a with
    | .ok r => writeRegion r w v (s.charge s.cfg.dataAccessCycles)
    | .error e => .error e

/-- The bytes of memory that hold a region, where it is RAM or scratchpad: the only regions SWL and SWR may reach
(43_loadstore R364). -/
def Region.ramOrScratch : Region → Option Nat
  | .ram o => some o
  | .scratch o => some (Config.scratchBase + o)
  | _ => none

/-- The word store of SWL and SWR (43_loadstore R364): charged as one access, discarded when isolated, refused outside RAM and
scratchpad, and otherwise the word `merge m` in the place of the word `m` that stands there. -/
def storePartial (a4 : Word) (merge : Word → Word) (s : State) : Except Refusal State :=
  let t := s.charge s.cfg.dataAccessCycles
  if s.isc then .ok t
  else
    match resolve s.cfg a4 with
    | .error e => .error e
    | .ok r =>
      match r.ramOrScratch with
      | some k => .ok { t with mem := Memory.writeVal t.mem k (merge (Memory.readVal t.mem k .word)) .word }
      | none => .error .partialStoreOutsideRamAndScratchpad

/-- Where a fetch finds its word: an address of memory, and the cycles the fetch charges (20_memory R115, R117). -/
def fetchPlace (cfg : Config) (a : Word) : Except Refusal (Nat × Nat) :=
  match resolve cfg a with
  | .ok (.ram o) => .ok (o, 0)
  | .ok (.rom o) => .ok (Config.romBase + o, cfg.romExtraCycles)
  | .ok _ => .error .fetchOutsideRamAndRom
  | .error e => .error e

/-- `Fetch(a)` with the decoding of what it reads, and the cycles charged (20_memory R115; 30_encoding R180). -/
def fetchInstr (a : Word) (s : State) : Except Refusal (Instr × State) :=
  match fetchPlace s.cfg a with
  | .error e => .error e
  | .ok (k, c) => .ok (decode (Memory.readVal s.mem k .word), s.charge c)

end Sys2Proof.Machine
end

