-- ==== Sys2Proof/Machine/LoadStore.lean ====
section
/-! DEFINITION. The meanings of the loads and stores (43_loadstore R350 to R368). -/

namespace Sys2Proof.Machine

/-- A load (43_loadstore R351, R352): AdEL where the address is not aligned to the width, else a data read whose extended value
is issued as a delayed load. -/
def load (w : Width) (ext : Word → Word) (rt : Reg) (a : Word) (s : State) : Result :=
  if aligned w a then
    match memRead a w s with
    | .ok (v, t) => delayLoad rt (ext v) t
    | .error r => .refused r
  else raiseAt .adEL a s

/-- A partial-word load (43_loadstore R360 to R362): one read of the aligned word, merged with the value of rt that counts the
pending load. -/
def loadPartial (merge : BitVec 2 → Word → Word → Word) (rt : Reg) (a : Word) (s : State) : Result :=
  match memRead (alignedWord a) .word s with
  | .ok (v, t) => delayLoad rt (merge (lowBits a) (s.pend rt) v) t
  | .error r => .refused r

/-- A store (43_loadstore R351, R353): AdES where the address is not aligned to the width, else a data write of the committed
register. -/
def store (w : Width) (rt : Reg) (a : Word) (s : State) : Result :=
  if aligned w a then
    match memWrite a w (s.readReg rt) s with
    | .ok t => finish t
    | .error r => .refused r
  else raiseAt .adES a s

/-- A partial-word store (43_loadstore R364). -/
def storeMerged (merge : BitVec 2 → Word → Word → Word) (rt : Reg) (a : Word) (s : State) : Result :=
  match storePartial (alignedWord a) (merge (lowBits a) (s.readReg rt)) s with
  | .ok t => finish t
  | .error r => .refused r

/-- LB (43_loadstore R354). -/
def execLb (rt rs : Reg) (imm : Half) (s : State) : Result := load .byte sextByte rt (s.ea rs imm) s

/-- LBU (43_loadstore R355). -/
def execLbu (rt rs : Reg) (imm : Half) (s : State) : Result := load .byte id rt (s.ea rs imm) s

/-- LH (43_loadstore R356). -/
def execLh (rt rs : Reg) (imm : Half) (s : State) : Result := load .half sextHalf rt (s.ea rs imm) s

/-- LHU (43_loadstore R358). -/
def execLhu (rt rs : Reg) (imm : Half) (s : State) : Result := load .half id rt (s.ea rs imm) s

/-- LW (43_loadstore R359). -/
def execLw (rt rs : Reg) (imm : Half) (s : State) : Result := load .word id rt (s.ea rs imm) s

/-- LWL (43_loadstore R361). -/
def execLwl (rt rs : Reg) (imm : Half) (s : State) : Result := loadPartial lwlMerge rt (s.ea rs imm) s

/-- LWR (43_loadstore R362). -/
def execLwr (rt rs : Reg) (imm : Half) (s : State) : Result := loadPartial lwrMerge rt (s.ea rs imm) s

/-- SB (43_loadstore R363). -/
def execSb (rt rs : Reg) (imm : Half) (s : State) : Result := store .byte rt (s.ea rs imm) s

/-- SH (43_loadstore R365). -/
def execSh (rt rs : Reg) (imm : Half) (s : State) : Result := store .half rt (s.ea rs imm) s

/-- SW (43_loadstore R366). -/
def execSw (rt rs : Reg) (imm : Half) (s : State) : Result := store .word rt (s.ea rs imm) s

/-- SWL (43_loadstore R367). -/
def execSwl (rt rs : Reg) (imm : Half) (s : State) : Result := storeMerged swlMerge rt (s.ea rs imm) s

/-- SWR (43_loadstore R368). -/
def execSwr (rt rs : Reg) (imm : Half) (s : State) : Result := storeMerged swrMerge rt (s.ea rs imm) s

end Sys2Proof.Machine
end

