-- ==== Sys2Proof/Machine/MulDiv.lean ====
section
/-! DEFINITION. The meanings of multiply, divide and the HI/LO transfers (41_muldiv R290 to R297). HI and LO are written at once
(10_state R44). -/

namespace Sys2Proof.Machine

/-- HI and LO written together. -/
def State.setHiLo (s : State) (hi lo : Word) : State := { s with hi := hi, lo := lo }

/-- HI and LO from the two halves of a 64-bit product (41_muldiv R290). -/
def State.setProduct (s : State) (p : BitVec 64) : State := s.setHiLo (p.extractLsb' 32 32) (p.extractLsb' 0 32)

/-- The quotient of DIV (41_muldiv R292). -/
def divQuotient (n d : Word) : Word :=
  if d = 0#32 then (if 0 ≤ n.toInt then 0xFFFFFFFF#32 else 0x00000001#32)
  else if n = 0x80000000#32 ∧ d = 0xFFFFFFFF#32 then 0x80000000#32
  else BitVec.ofInt 32 (n.toInt.tdiv d.toInt)

/-- The remainder of DIV (41_muldiv R292). -/
def divRemainder (n d : Word) : Word :=
  if d = 0#32 then n
  else if n = 0x80000000#32 ∧ d = 0xFFFFFFFF#32 then 0#32
  else BitVec.ofInt 32 (n.toInt - d.toInt * n.toInt.tdiv d.toInt)

/-- The quotient of DIVU (41_muldiv R293). -/
def divuQuotient (n d : Word) : Word := if d = 0#32 then 0xFFFFFFFF#32 else BitVec.ofNat 32 (n.toNat / d.toNat)

/-- The remainder of DIVU (41_muldiv R293). -/
def divuRemainder (n d : Word) : Word := if d = 0#32 then n else BitVec.ofNat 32 (n.toNat % d.toNat)

/-- MULT (41_muldiv R290). -/
def execMult (rs rt : Reg) (s : State) : Result :=
  finish (s.setProduct ((s.readReg rs).signExtend 64 * (s.readReg rt).signExtend 64))

/-- MULTU (41_muldiv R291). -/
def execMultu (rs rt : Reg) (s : State) : Result :=
  finish (s.setProduct ((s.readReg rs).setWidth 64 * (s.readReg rt).setWidth 64))

/-- DIV (41_muldiv R292). -/
def execDiv (rs rt : Reg) (s : State) : Result :=
  finish (s.setHiLo (divRemainder (s.readReg rs) (s.readReg rt)) (divQuotient (s.readReg rs) (s.readReg rt)))

/-- DIVU (41_muldiv R293). -/
def execDivu (rs rt : Reg) (s : State) : Result :=
  finish (s.setHiLo (divuRemainder (s.readReg rs) (s.readReg rt)) (divuQuotient (s.readReg rs) (s.readReg rt)))

/-- MFHI (41_muldiv R294): an ordinary write, not a delayed load. -/
def execMfhi (rd : Reg) (s : State) : Result := writeBack rd s.hi s

/-- MFLO (41_muldiv R295). -/
def execMflo (rd : Reg) (s : State) : Result := writeBack rd s.lo s

/-- MTHI (41_muldiv R296). -/
def execMthi (rs : Reg) (s : State) : Result := finish { s with hi := s.readReg rs }

/-- MTLO (41_muldiv R297). -/
def execMtlo (rs : Reg) (s : State) : Result := finish { s with lo := s.readReg rs }

end Sys2Proof.Machine
end

