-- ==== Sys2Proof/Machine/Reserved.lean ====
section
/-! DEFINITION. The meanings of the reserved encodings (30_encoding R195, R196): each raises Reserved Instruction and has no other
effect (44_system R398). -/

namespace Sys2Proof.Machine

/-- `raise RI()` (44_system R398). -/
def reservedInstruction (s : State) : Result := raise .ri s

/-- RESERVED op=0x11 (COP1) (44_system R398). -/
def execResOp11 (s : State) : Result := reservedInstruction s

/-- RESERVED op=0x13 (COP3) (44_system R398). -/
def execResOp13 (s : State) : Result := reservedInstruction s

/-- RESERVED op=0x14 (44_system R398). -/
def execResOp14 (s : State) : Result := reservedInstruction s

/-- RESERVED op=0x15 (44_system R398). -/
def execResOp15 (s : State) : Result := reservedInstruction s

/-- RESERVED op=0x16 (44_system R398). -/
def execResOp16 (s : State) : Result := reservedInstruction s

/-- RESERVED op=0x17 (44_system R398). -/
def execResOp17 (s : State) : Result := reservedInstruction s

/-- RESERVED op=0x18 (44_system R398). -/
def execResOp18 (s : State) : Result := reservedInstruction s

/-- RESERVED op=0x19 (44_system R398). -/
def execResOp19 (s : State) : Result := reservedInstruction s

/-- RESERVED op=0x1A (44_system R398). -/
def execResOp1A (s : State) : Result := reservedInstruction s

/-- RESERVED op=0x1B (44_system R398). -/
def execResOp1B (s : State) : Result := reservedInstruction s

/-- RESERVED op=0x1C (44_system R398). -/
def execResOp1C (s : State) : Result := reservedInstruction s

/-- RESERVED op=0x1D (44_system R398). -/
def execResOp1D (s : State) : Result := reservedInstruction s

/-- RESERVED op=0x1E (44_system R398). -/
def execResOp1E (s : State) : Result := reservedInstruction s

/-- RESERVED op=0x1F (44_system R398). -/
def execResOp1F (s : State) : Result := reservedInstruction s

/-- RESERVED op=0x27 (44_system R398). -/
def execResOp27 (s : State) : Result := reservedInstruction s

/-- RESERVED op=0x2C (44_system R398). -/
def execResOp2C (s : State) : Result := reservedInstruction s

/-- RESERVED op=0x2D (44_system R398). -/
def execResOp2D (s : State) : Result := reservedInstruction s

/-- RESERVED op=0x2F (44_system R398). -/
def execResOp2F (s : State) : Result := reservedInstruction s

/-- RESERVED op=0x30 (LWC0) (44_system R398). -/
def execResOp30 (s : State) : Result := reservedInstruction s

/-- RESERVED op=0x31 (LWC1) (44_system R398). -/
def execResOp31 (s : State) : Result := reservedInstruction s

/-- RESERVED op=0x33 (LWC3) (44_system R398). -/
def execResOp33 (s : State) : Result := reservedInstruction s

/-- RESERVED op=0x34 (44_system R398). -/
def execResOp34 (s : State) : Result := reservedInstruction s

/-- RESERVED op=0x35 (44_system R398). -/
def execResOp35 (s : State) : Result := reservedInstruction s

/-- RESERVED op=0x36 (44_system R398). -/
def execResOp36 (s : State) : Result := reservedInstruction s

/-- RESERVED op=0x37 (44_system R398). -/
def execResOp37 (s : State) : Result := reservedInstruction s

/-- RESERVED op=0x38 (SWC0) (44_system R398). -/
def execResOp38 (s : State) : Result := reservedInstruction s

/-- RESERVED op=0x39 (SWC1) (44_system R398). -/
def execResOp39 (s : State) : Result := reservedInstruction s

/-- RESERVED op=0x3B (SWC3) (44_system R398). -/
def execResOp3B (s : State) : Result := reservedInstruction s

/-- RESERVED op=0x3C (44_system R398). -/
def execResOp3C (s : State) : Result := reservedInstruction s

/-- RESERVED op=0x3D (44_system R398). -/
def execResOp3D (s : State) : Result := reservedInstruction s

/-- RESERVED op=0x3E (44_system R398). -/
def execResOp3E (s : State) : Result := reservedInstruction s

/-- RESERVED op=0x3F (44_system R398). -/
def execResOp3F (s : State) : Result := reservedInstruction s

/-- RESERVED SPECIAL funct=0x01 (44_system R398). -/
def execResFunct01 (s : State) : Result := reservedInstruction s

/-- RESERVED SPECIAL funct=0x05 (44_system R398). -/
def execResFunct05 (s : State) : Result := reservedInstruction s

/-- RESERVED SPECIAL funct=0x0A (44_system R398). -/
def execResFunct0A (s : State) : Result := reservedInstruction s

/-- RESERVED SPECIAL funct=0x0B (44_system R398). -/
def execResFunct0B (s : State) : Result := reservedInstruction s

/-- RESERVED SPECIAL funct=0x0E (44_system R398). -/
def execResFunct0E (s : State) : Result := reservedInstruction s

/-- RESERVED SPECIAL funct=0x0F (44_system R398). -/
def execResFunct0F (s : State) : Result := reservedInstruction s

/-- RESERVED SPECIAL funct=0x14 (44_system R398). -/
def execResFunct14 (s : State) : Result := reservedInstruction s

/-- RESERVED SPECIAL funct=0x15 (44_system R398). -/
def execResFunct15 (s : State) : Result := reservedInstruction s

/-- RESERVED SPECIAL funct=0x16 (44_system R398). -/
def execResFunct16 (s : State) : Result := reservedInstruction s

/-- RESERVED SPECIAL funct=0x17 (44_system R398). -/
def execResFunct17 (s : State) : Result := reservedInstruction s

/-- RESERVED SPECIAL funct=0x1C (44_system R398). -/
def execResFunct1C (s : State) : Result := reservedInstruction s

/-- RESERVED SPECIAL funct=0x1D (44_system R398). -/
def execResFunct1D (s : State) : Result := reservedInstruction s

/-- RESERVED SPECIAL funct=0x1E (44_system R398). -/
def execResFunct1E (s : State) : Result := reservedInstruction s

/-- RESERVED SPECIAL funct=0x1F (44_system R398). -/
def execResFunct1F (s : State) : Result := reservedInstruction s

/-- RESERVED SPECIAL funct=0x28 (44_system R398). -/
def execResFunct28 (s : State) : Result := reservedInstruction s

/-- RESERVED SPECIAL funct=0x29 (44_system R398). -/
def execResFunct29 (s : State) : Result := reservedInstruction s

/-- RESERVED SPECIAL funct=0x2C (44_system R398). -/
def execResFunct2C (s : State) : Result := reservedInstruction s

/-- RESERVED SPECIAL funct=0x2D (44_system R398). -/
def execResFunct2D (s : State) : Result := reservedInstruction s

/-- RESERVED SPECIAL funct=0x2E (44_system R398). -/
def execResFunct2E (s : State) : Result := reservedInstruction s

/-- RESERVED SPECIAL funct=0x2F (44_system R398). -/
def execResFunct2F (s : State) : Result := reservedInstruction s

/-- RESERVED SPECIAL funct=0x30 (44_system R398). -/
def execResFunct30 (s : State) : Result := reservedInstruction s

/-- RESERVED SPECIAL funct=0x31 (44_system R398). -/
def execResFunct31 (s : State) : Result := reservedInstruction s

/-- RESERVED SPECIAL funct=0x32 (44_system R398). -/
def execResFunct32 (s : State) : Result := reservedInstruction s

/-- RESERVED SPECIAL funct=0x33 (44_system R398). -/
def execResFunct33 (s : State) : Result := reservedInstruction s

/-- RESERVED SPECIAL funct=0x34 (44_system R398). -/
def execResFunct34 (s : State) : Result := reservedInstruction s

/-- RESERVED SPECIAL funct=0x35 (44_system R398). -/
def execResFunct35 (s : State) : Result := reservedInstruction s

/-- RESERVED SPECIAL funct=0x36 (44_system R398). -/
def execResFunct36 (s : State) : Result := reservedInstruction s

/-- RESERVED SPECIAL funct=0x37 (44_system R398). -/
def execResFunct37 (s : State) : Result := reservedInstruction s

/-- RESERVED SPECIAL funct=0x38 (44_system R398). -/
def execResFunct38 (s : State) : Result := reservedInstruction s

/-- RESERVED SPECIAL funct=0x39 (44_system R398). -/
def execResFunct39 (s : State) : Result := reservedInstruction s

/-- RESERVED SPECIAL funct=0x3A (44_system R398). -/
def execResFunct3A (s : State) : Result := reservedInstruction s

/-- RESERVED SPECIAL funct=0x3B (44_system R398). -/
def execResFunct3B (s : State) : Result := reservedInstruction s

/-- RESERVED SPECIAL funct=0x3C (44_system R398). -/
def execResFunct3C (s : State) : Result := reservedInstruction s

/-- RESERVED SPECIAL funct=0x3D (44_system R398). -/
def execResFunct3D (s : State) : Result := reservedInstruction s

/-- RESERVED SPECIAL funct=0x3E (44_system R398). -/
def execResFunct3E (s : State) : Result := reservedInstruction s

/-- RESERVED SPECIAL funct=0x3F (44_system R398). -/
def execResFunct3F (s : State) : Result := reservedInstruction s

/-- RESERVED COP0 rs=0x01 (44_system R398). -/
def execResCop0Rs01 (s : State) : Result := reservedInstruction s

/-- RESERVED COP0 rs=0x02 (44_system R398). -/
def execResCop0Rs02 (s : State) : Result := reservedInstruction s

/-- RESERVED COP0 rs=0x03 (44_system R398). -/
def execResCop0Rs03 (s : State) : Result := reservedInstruction s

/-- RESERVED COP0 rs=0x05 (44_system R398). -/
def execResCop0Rs05 (s : State) : Result := reservedInstruction s

/-- RESERVED COP0 rs=0x06 (44_system R398). -/
def execResCop0Rs06 (s : State) : Result := reservedInstruction s

/-- RESERVED COP0 rs=0x07 (44_system R398). -/
def execResCop0Rs07 (s : State) : Result := reservedInstruction s

/-- RESERVED COP0 rs=0x08 (44_system R398). -/
def execResCop0Rs08 (s : State) : Result := reservedInstruction s

/-- RESERVED COP0 rs=0x09 (44_system R398). -/
def execResCop0Rs09 (s : State) : Result := reservedInstruction s

/-- RESERVED COP0 rs=0x0A (44_system R398). -/
def execResCop0Rs0A (s : State) : Result := reservedInstruction s

/-- RESERVED COP0 rs=0x0B (44_system R398). -/
def execResCop0Rs0B (s : State) : Result := reservedInstruction s

/-- RESERVED COP0 rs=0x0C (44_system R398). -/
def execResCop0Rs0C (s : State) : Result := reservedInstruction s

/-- RESERVED COP0 rs=0x0D (44_system R398). -/
def execResCop0Rs0D (s : State) : Result := reservedInstruction s

/-- RESERVED COP0 rs=0x0E (44_system R398). -/
def execResCop0Rs0E (s : State) : Result := reservedInstruction s

/-- RESERVED COP0 rs=0x0F (44_system R398). -/
def execResCop0Rs0F (s : State) : Result := reservedInstruction s

/-- RESERVED COP0 CO funct=0x00 (44_system R398). -/
def execResCop0Co00 (s : State) : Result := reservedInstruction s

/-- RESERVED COP0 CO funct=0x01 (44_system R398). -/
def execResCop0Co01 (s : State) : Result := reservedInstruction s

/-- RESERVED COP0 CO funct=0x02 (44_system R398). -/
def execResCop0Co02 (s : State) : Result := reservedInstruction s

/-- RESERVED COP0 CO funct=0x03 (44_system R398). -/
def execResCop0Co03 (s : State) : Result := reservedInstruction s

/-- RESERVED COP0 CO funct=0x04 (44_system R398). -/
def execResCop0Co04 (s : State) : Result := reservedInstruction s

/-- RESERVED COP0 CO funct=0x05 (44_system R398). -/
def execResCop0Co05 (s : State) : Result := reservedInstruction s

/-- RESERVED COP0 CO funct=0x06 (44_system R398). -/
def execResCop0Co06 (s : State) : Result := reservedInstruction s

/-- RESERVED COP0 CO funct=0x07 (44_system R398). -/
def execResCop0Co07 (s : State) : Result := reservedInstruction s

/-- RESERVED COP0 CO funct=0x08 (44_system R398). -/
def execResCop0Co08 (s : State) : Result := reservedInstruction s

/-- RESERVED COP0 CO funct=0x09 (44_system R398). -/
def execResCop0Co09 (s : State) : Result := reservedInstruction s

/-- RESERVED COP0 CO funct=0x0A (44_system R398). -/
def execResCop0Co0A (s : State) : Result := reservedInstruction s

/-- RESERVED COP0 CO funct=0x0B (44_system R398). -/
def execResCop0Co0B (s : State) : Result := reservedInstruction s

/-- RESERVED COP0 CO funct=0x0C (44_system R398). -/
def execResCop0Co0C (s : State) : Result := reservedInstruction s

/-- RESERVED COP0 CO funct=0x0D (44_system R398). -/
def execResCop0Co0D (s : State) : Result := reservedInstruction s

/-- RESERVED COP0 CO funct=0x0E (44_system R398). -/
def execResCop0Co0E (s : State) : Result := reservedInstruction s

/-- RESERVED COP0 CO funct=0x0F (44_system R398). -/
def execResCop0Co0F (s : State) : Result := reservedInstruction s

/-- RESERVED COP0 CO funct=0x11 (44_system R398). -/
def execResCop0Co11 (s : State) : Result := reservedInstruction s

/-- RESERVED COP0 CO funct=0x12 (44_system R398). -/
def execResCop0Co12 (s : State) : Result := reservedInstruction s

/-- RESERVED COP0 CO funct=0x13 (44_system R398). -/
def execResCop0Co13 (s : State) : Result := reservedInstruction s

/-- RESERVED COP0 CO funct=0x14 (44_system R398). -/
def execResCop0Co14 (s : State) : Result := reservedInstruction s

/-- RESERVED COP0 CO funct=0x15 (44_system R398). -/
def execResCop0Co15 (s : State) : Result := reservedInstruction s

/-- RESERVED COP0 CO funct=0x16 (44_system R398). -/
def execResCop0Co16 (s : State) : Result := reservedInstruction s

/-- RESERVED COP0 CO funct=0x17 (44_system R398). -/
def execResCop0Co17 (s : State) : Result := reservedInstruction s

/-- RESERVED COP0 CO funct=0x18 (44_system R398). -/
def execResCop0Co18 (s : State) : Result := reservedInstruction s

/-- RESERVED COP0 CO funct=0x19 (44_system R398). -/
def execResCop0Co19 (s : State) : Result := reservedInstruction s

/-- RESERVED COP0 CO funct=0x1A (44_system R398). -/
def execResCop0Co1A (s : State) : Result := reservedInstruction s

/-- RESERVED COP0 CO funct=0x1B (44_system R398). -/
def execResCop0Co1B (s : State) : Result := reservedInstruction s

/-- RESERVED COP0 CO funct=0x1C (44_system R398). -/
def execResCop0Co1C (s : State) : Result := reservedInstruction s

/-- RESERVED COP0 CO funct=0x1D (44_system R398). -/
def execResCop0Co1D (s : State) : Result := reservedInstruction s

/-- RESERVED COP0 CO funct=0x1E (44_system R398). -/
def execResCop0Co1E (s : State) : Result := reservedInstruction s

/-- RESERVED COP0 CO funct=0x1F (44_system R398). -/
def execResCop0Co1F (s : State) : Result := reservedInstruction s

/-- RESERVED COP0 CO funct=0x20 (44_system R398). -/
def execResCop0Co20 (s : State) : Result := reservedInstruction s

/-- RESERVED COP0 CO funct=0x21 (44_system R398). -/
def execResCop0Co21 (s : State) : Result := reservedInstruction s

/-- RESERVED COP0 CO funct=0x22 (44_system R398). -/
def execResCop0Co22 (s : State) : Result := reservedInstruction s

/-- RESERVED COP0 CO funct=0x23 (44_system R398). -/
def execResCop0Co23 (s : State) : Result := reservedInstruction s

/-- RESERVED COP0 CO funct=0x24 (44_system R398). -/
def execResCop0Co24 (s : State) : Result := reservedInstruction s

/-- RESERVED COP0 CO funct=0x25 (44_system R398). -/
def execResCop0Co25 (s : State) : Result := reservedInstruction s

/-- RESERVED COP0 CO funct=0x26 (44_system R398). -/
def execResCop0Co26 (s : State) : Result := reservedInstruction s

/-- RESERVED COP0 CO funct=0x27 (44_system R398). -/
def execResCop0Co27 (s : State) : Result := reservedInstruction s

/-- RESERVED COP0 CO funct=0x28 (44_system R398). -/
def execResCop0Co28 (s : State) : Result := reservedInstruction s

/-- RESERVED COP0 CO funct=0x29 (44_system R398). -/
def execResCop0Co29 (s : State) : Result := reservedInstruction s

/-- RESERVED COP0 CO funct=0x2A (44_system R398). -/
def execResCop0Co2A (s : State) : Result := reservedInstruction s

/-- RESERVED COP0 CO funct=0x2B (44_system R398). -/
def execResCop0Co2B (s : State) : Result := reservedInstruction s

/-- RESERVED COP0 CO funct=0x2C (44_system R398). -/
def execResCop0Co2C (s : State) : Result := reservedInstruction s

/-- RESERVED COP0 CO funct=0x2D (44_system R398). -/
def execResCop0Co2D (s : State) : Result := reservedInstruction s

/-- RESERVED COP0 CO funct=0x2E (44_system R398). -/
def execResCop0Co2E (s : State) : Result := reservedInstruction s

/-- RESERVED COP0 CO funct=0x2F (44_system R398). -/
def execResCop0Co2F (s : State) : Result := reservedInstruction s

/-- RESERVED COP0 CO funct=0x30 (44_system R398). -/
def execResCop0Co30 (s : State) : Result := reservedInstruction s

/-- RESERVED COP0 CO funct=0x31 (44_system R398). -/
def execResCop0Co31 (s : State) : Result := reservedInstruction s

/-- RESERVED COP0 CO funct=0x32 (44_system R398). -/
def execResCop0Co32 (s : State) : Result := reservedInstruction s

/-- RESERVED COP0 CO funct=0x33 (44_system R398). -/
def execResCop0Co33 (s : State) : Result := reservedInstruction s

/-- RESERVED COP0 CO funct=0x34 (44_system R398). -/
def execResCop0Co34 (s : State) : Result := reservedInstruction s

/-- RESERVED COP0 CO funct=0x35 (44_system R398). -/
def execResCop0Co35 (s : State) : Result := reservedInstruction s

/-- RESERVED COP0 CO funct=0x36 (44_system R398). -/
def execResCop0Co36 (s : State) : Result := reservedInstruction s

/-- RESERVED COP0 CO funct=0x37 (44_system R398). -/
def execResCop0Co37 (s : State) : Result := reservedInstruction s

/-- RESERVED COP0 CO funct=0x38 (44_system R398). -/
def execResCop0Co38 (s : State) : Result := reservedInstruction s

/-- RESERVED COP0 CO funct=0x39 (44_system R398). -/
def execResCop0Co39 (s : State) : Result := reservedInstruction s

/-- RESERVED COP0 CO funct=0x3A (44_system R398). -/
def execResCop0Co3A (s : State) : Result := reservedInstruction s

/-- RESERVED COP0 CO funct=0x3B (44_system R398). -/
def execResCop0Co3B (s : State) : Result := reservedInstruction s

/-- RESERVED COP0 CO funct=0x3C (44_system R398). -/
def execResCop0Co3C (s : State) : Result := reservedInstruction s

/-- RESERVED COP0 CO funct=0x3D (44_system R398). -/
def execResCop0Co3D (s : State) : Result := reservedInstruction s

/-- RESERVED COP0 CO funct=0x3E (44_system R398). -/
def execResCop0Co3E (s : State) : Result := reservedInstruction s

/-- RESERVED COP0 CO funct=0x3F (44_system R398). -/
def execResCop0Co3F (s : State) : Result := reservedInstruction s

end Sys2Proof.Machine
end

