-- ==== Sys2Proof/Machine/Shift.lean ====
section
/-! DEFINITION. The meanings of the shifts (40_alu R248 to R253, 30_encoding R188). -/

namespace Sys2Proof.Machine

/-- SLL; the word 0x00000000 is SLL r0, r0, 0, which is NOP (40_alu R248). -/
def execSll (rd rt : Reg) (shamt : BitVec 5) (s : State) : Result := writeBack rd (s.readReg rt <<< shamt.toNat) s

/-- SRL (40_alu R249). -/
def execSrl (rd rt : Reg) (shamt : BitVec 5) (s : State) : Result := writeBack rd (s.readReg rt >>> shamt.toNat) s

/-- SRA (40_alu R250). -/
def execSra (rd rt : Reg) (shamt : BitVec 5) (s : State) : Result := writeBack rd ((s.readReg rt).sshiftRight shamt.toNat) s

/-- SLLV (40_alu R251). -/
def execSllv (rd rt rs : Reg) (s : State) : Result := writeBack rd (s.readReg rt <<< s.shiftAmount rs) s

/-- SRLV (40_alu R252). -/
def execSrlv (rd rt rs : Reg) (s : State) : Result := writeBack rd (s.readReg rt >>> s.shiftAmount rs) s

/-- SRAV (40_alu R253). -/
def execSrav (rd rt rs : Reg) (s : State) : Result := writeBack rd ((s.readReg rt).sshiftRight (s.shiftAmount rs)) s

end Sys2Proof.Machine
end

