-- ==== Sys2Proof/Machine/System.lean ====
section
/-! DEFINITION. The meanings of the system and coprocessor instructions (44_system R390 to R397). No instruction is checked against
the mode (44_system R395). -/

namespace Sys2Proof.Machine

/-- SYSCALL (44_system R390); the code is ignored. -/
def execSyscall (_code : BitVec 20) (s : State) : Result := raise .sys s

/-- BREAK (44_system R391); the code is ignored. -/
def execBrk (_code : BitVec 20) (s : State) : Result := raise .bp s

/-- `cop0read(n)` (44_system R392): the five registers of the block, and a draw for every other number (10_state R58). -/
def cop0Read (n : Reg) (s : State) : Word × State :=
  match n with
  | 8#5 => (s.badVaddr, s)
  | 12#5 => (s.sr, s)
  | 13#5 => (s.causeValue, s)
  | 14#5 => (s.epc, s)
  | 15#5 => (Config.prid, s)
  | _ => s.draw

/-- A write of MTC0 (44_system R393): SR is written whole, Cause in bits 9:8 only, and nothing else changes. -/
def cop0Write (n : Reg) (v : Word) (s : State) : State :=
  match n with
  | 12#5 => { s with sr := v }
  | 13#5 => { s with cause := (s.cause &&& 0xFFFFFCFF#32) ||| (v &&& 0x00000300#32) }
  | _ => s

/-- MFC0 (44_system R392): the result is a delayed load. -/
def execMfc0 (rt rd : Reg) (s : State) : Result := delayLoad rt (cop0Read rd s).1 (cop0Read rd s).2

/-- MTC0 (44_system R393): in effect for the rest of the step. -/
def execMtc0 (rt rd : Reg) (s : State) : Result := finish (cop0Write rd (s.readReg rt) s)

/-- RFE (44_system R394): the mode stack is popped; RFE does not jump. -/
def execRfe (s : State) : Result := finish s.returnFromException

/-- A word of the COP2 group (44_system R397): refused, or without any effect, by COP2_MODE. -/
def cop2Word (s : State) : Result :=
  match s.cfg.cop2Mode with
  | .refuse => .refused .cop2Word
  | .noOp => finish s

/-- COP2, every form (44_system R397). -/
def execCop2 (_cofun : BitVec 26) (s : State) : Result := cop2Word s

/-- LWC2 (44_system R397): no access is made. -/
def execLwc2 (_rt _rs : Reg) (_imm : Half) (s : State) : Result := cop2Word s

/-- SWC2 (44_system R397): no access is made. -/
def execSwc2 (_rt _rs : Reg) (_imm : Half) (s : State) : Result := cop2Word s

end Sys2Proof.Machine
end

