-- ==== Sys2Proof/Machine/Dispatch.lean ====
section
/-! DEFINITION. Execution: one arm per instruction, each one call of its meaning. An arm runs phases 3 and 4 of a step (10_state
R72): it takes the state after the fetch and answers the state after the commit. -/

namespace Sys2Proof.Machine

def exec (i : Instr) (s : State) : Host.Outcome State Fault Refusal :=
  match i with
  | .sll rd rt shamt => Sys2Proof.Machine.execSll rd rt shamt s
  | .srl rd rt shamt => Sys2Proof.Machine.execSrl rd rt shamt s
  | .sra rd rt shamt => Sys2Proof.Machine.execSra rd rt shamt s
  | .sllv rd rt rs => Sys2Proof.Machine.execSllv rd rt rs s
  | .srlv rd rt rs => Sys2Proof.Machine.execSrlv rd rt rs s
  | .srav rd rt rs => Sys2Proof.Machine.execSrav rd rt rs s
  | .jr rs => Sys2Proof.Machine.execJr rs s
  | .jalr rd rs => Sys2Proof.Machine.execJalr rd rs s
  | .syscall code => Sys2Proof.Machine.execSyscall code s
  | .brk code => Sys2Proof.Machine.execBrk code s
  | .mfhi rd => Sys2Proof.Machine.execMfhi rd s
  | .mthi rs => Sys2Proof.Machine.execMthi rs s
  | .mflo rd => Sys2Proof.Machine.execMflo rd s
  | .mtlo rs => Sys2Proof.Machine.execMtlo rs s
  | .mult rs rt => Sys2Proof.Machine.execMult rs rt s
  | .multu rs rt => Sys2Proof.Machine.execMultu rs rt s
  | .div rs rt => Sys2Proof.Machine.execDiv rs rt s
  | .divu rs rt => Sys2Proof.Machine.execDivu rs rt s
  | .add rd rs rt => Sys2Proof.Machine.execAdd rd rs rt s
  | .addu rd rs rt => Sys2Proof.Machine.execAddu rd rs rt s
  | .sub rd rs rt => Sys2Proof.Machine.execSub rd rs rt s
  | .subu rd rs rt => Sys2Proof.Machine.execSubu rd rs rt s
  | .and rd rs rt => Sys2Proof.Machine.execAnd rd rs rt s
  | .or rd rs rt => Sys2Proof.Machine.execOr rd rs rt s
  | .xor rd rs rt => Sys2Proof.Machine.execXor rd rs rt s
  | .nor rd rs rt => Sys2Proof.Machine.execNor rd rs rt s
  | .slt rd rs rt => Sys2Proof.Machine.execSlt rd rs rt s
  | .sltu rd rs rt => Sys2Proof.Machine.execSltu rd rs rt s
  | .bltz rs imm => Sys2Proof.Machine.execBltz rs imm s
  | .bgez rs imm => Sys2Proof.Machine.execBgez rs imm s
  | .bltzal rs imm => Sys2Proof.Machine.execBltzal rs imm s
  | .bgezal rs imm => Sys2Proof.Machine.execBgezal rs imm s
  | .bltzRt02 rs imm => Sys2Proof.Machine.execBltzRt02 rs imm s
  | .bgezRt03 rs imm => Sys2Proof.Machine.execBgezRt03 rs imm s
  | .bltzRt04 rs imm => Sys2Proof.Machine.execBltzRt04 rs imm s
  | .bgezRt05 rs imm => Sys2Proof.Machine.execBgezRt05 rs imm s
  | .bltzRt06 rs imm => Sys2Proof.Machine.execBltzRt06 rs imm s
  | .bgezRt07 rs imm => Sys2Proof.Machine.execBgezRt07 rs imm s
  | .bltzRt08 rs imm => Sys2Proof.Machine.execBltzRt08 rs imm s
  | .bgezRt09 rs imm => Sys2Proof.Machine.execBgezRt09 rs imm s
  | .bltzRt0A rs imm => Sys2Proof.Machine.execBltzRt0A rs imm s
  | .bgezRt0B rs imm => Sys2Proof.Machine.execBgezRt0B rs imm s
  | .bltzRt0C rs imm => Sys2Proof.Machine.execBltzRt0C rs imm s
  | .bgezRt0D rs imm => Sys2Proof.Machine.execBgezRt0D rs imm s
  | .bltzRt0E rs imm => Sys2Proof.Machine.execBltzRt0E rs imm s
  | .bgezRt0F rs imm => Sys2Proof.Machine.execBgezRt0F rs imm s
  | .bltzRt12 rs imm => Sys2Proof.Machine.execBltzRt12 rs imm s
  | .bgezRt13 rs imm => Sys2Proof.Machine.execBgezRt13 rs imm s
  | .bltzRt14 rs imm => Sys2Proof.Machine.execBltzRt14 rs imm s
  | .bgezRt15 rs imm => Sys2Proof.Machine.execBgezRt15 rs imm s
  | .bltzRt16 rs imm => Sys2Proof.Machine.execBltzRt16 rs imm s
  | .bgezRt17 rs imm => Sys2Proof.Machine.execBgezRt17 rs imm s
  | .bltzRt18 rs imm => Sys2Proof.Machine.execBltzRt18 rs imm s
  | .bgezRt19 rs imm => Sys2Proof.Machine.execBgezRt19 rs imm s
  | .bltzRt1A rs imm => Sys2Proof.Machine.execBltzRt1A rs imm s
  | .bgezRt1B rs imm => Sys2Proof.Machine.execBgezRt1B rs imm s
  | .bltzRt1C rs imm => Sys2Proof.Machine.execBltzRt1C rs imm s
  | .bgezRt1D rs imm => Sys2Proof.Machine.execBgezRt1D rs imm s
  | .bltzRt1E rs imm => Sys2Proof.Machine.execBltzRt1E rs imm s
  | .bgezRt1F rs imm => Sys2Proof.Machine.execBgezRt1F rs imm s
  | .j target => Sys2Proof.Machine.execJ target s
  | .jal target => Sys2Proof.Machine.execJal target s
  | .beq rs rt imm => Sys2Proof.Machine.execBeq rs rt imm s
  | .bne rs rt imm => Sys2Proof.Machine.execBne rs rt imm s
  | .blez rs imm => Sys2Proof.Machine.execBlez rs imm s
  | .bgtz rs imm => Sys2Proof.Machine.execBgtz rs imm s
  | .addi rt rs imm => Sys2Proof.Machine.execAddi rt rs imm s
  | .addiu rt rs imm => Sys2Proof.Machine.execAddiu rt rs imm s
  | .slti rt rs imm => Sys2Proof.Machine.execSlti rt rs imm s
  | .sltiu rt rs imm => Sys2Proof.Machine.execSltiu rt rs imm s
  | .andi rt rs imm => Sys2Proof.Machine.execAndi rt rs imm s
  | .ori rt rs imm => Sys2Proof.Machine.execOri rt rs imm s
  | .xori rt rs imm => Sys2Proof.Machine.execXori rt rs imm s
  | .lui rt imm => Sys2Proof.Machine.execLui rt imm s
  | .lb rt rs imm => Sys2Proof.Machine.execLb rt rs imm s
  | .lh rt rs imm => Sys2Proof.Machine.execLh rt rs imm s
  | .lwl rt rs imm => Sys2Proof.Machine.execLwl rt rs imm s
  | .lw rt rs imm => Sys2Proof.Machine.execLw rt rs imm s
  | .lbu rt rs imm => Sys2Proof.Machine.execLbu rt rs imm s
  | .lhu rt rs imm => Sys2Proof.Machine.execLhu rt rs imm s
  | .lwr rt rs imm => Sys2Proof.Machine.execLwr rt rs imm s
  | .sb rt rs imm => Sys2Proof.Machine.execSb rt rs imm s
  | .sh rt rs imm => Sys2Proof.Machine.execSh rt rs imm s
  | .swl rt rs imm => Sys2Proof.Machine.execSwl rt rs imm s
  | .sw rt rs imm => Sys2Proof.Machine.execSw rt rs imm s
  | .swr rt rs imm => Sys2Proof.Machine.execSwr rt rs imm s
  | .mfc0 rt rd => Sys2Proof.Machine.execMfc0 rt rd s
  | .mtc0 rt rd => Sys2Proof.Machine.execMtc0 rt rd s
  | .rfe => Sys2Proof.Machine.execRfe s
  | .cop2 cofun => Sys2Proof.Machine.execCop2 cofun s
  | .lwc2 rt rs imm => Sys2Proof.Machine.execLwc2 rt rs imm s
  | .swc2 rt rs imm => Sys2Proof.Machine.execSwc2 rt rs imm s
  | .resOp11 => Sys2Proof.Machine.execResOp11 s
  | .resOp13 => Sys2Proof.Machine.execResOp13 s
  | .resOp14 => Sys2Proof.Machine.execResOp14 s
  | .resOp15 => Sys2Proof.Machine.execResOp15 s
  | .resOp16 => Sys2Proof.Machine.execResOp16 s
  | .resOp17 => Sys2Proof.Machine.execResOp17 s
  | .resOp18 => Sys2Proof.Machine.execResOp18 s
  | .resOp19 => Sys2Proof.Machine.execResOp19 s
  | .resOp1A => Sys2Proof.Machine.execResOp1A s
  | .resOp1B => Sys2Proof.Machine.execResOp1B s
  | .resOp1C => Sys2Proof.Machine.execResOp1C s
  | .resOp1D => Sys2Proof.Machine.execResOp1D s
  | .resOp1E => Sys2Proof.Machine.execResOp1E s
  | .resOp1F => Sys2Proof.Machine.execResOp1F s
  | .resOp27 => Sys2Proof.Machine.execResOp27 s
  | .resOp2C => Sys2Proof.Machine.execResOp2C s
  | .resOp2D => Sys2Proof.Machine.execResOp2D s
  | .resOp2F => Sys2Proof.Machine.execResOp2F s
  | .resOp30 => Sys2Proof.Machine.execResOp30 s
  | .resOp31 => Sys2Proof.Machine.execResOp31 s
  | .resOp33 => Sys2Proof.Machine.execResOp33 s
  | .resOp34 => Sys2Proof.Machine.execResOp34 s
  | .resOp35 => Sys2Proof.Machine.execResOp35 s
  | .resOp36 => Sys2Proof.Machine.execResOp36 s
  | .resOp37 => Sys2Proof.Machine.execResOp37 s
  | .resOp38 => Sys2Proof.Machine.execResOp38 s
  | .resOp39 => Sys2Proof.Machine.execResOp39 s
  | .resOp3B => Sys2Proof.Machine.execResOp3B s
  | .resOp3C => Sys2Proof.Machine.execResOp3C s
  | .resOp3D => Sys2Proof.Machine.execResOp3D s
  | .resOp3E => Sys2Proof.Machine.execResOp3E s
  | .resOp3F => Sys2Proof.Machine.execResOp3F s
  | .resFunct01 => Sys2Proof.Machine.execResFunct01 s
  | .resFunct05 => Sys2Proof.Machine.execResFunct05 s
  | .resFunct0A => Sys2Proof.Machine.execResFunct0A s
  | .resFunct0B => Sys2Proof.Machine.execResFunct0B s
  | .resFunct0E => Sys2Proof.Machine.execResFunct0E s
  | .resFunct0F => Sys2Proof.Machine.execResFunct0F s
  | .resFunct14 => Sys2Proof.Machine.execResFunct14 s
  | .resFunct15 => Sys2Proof.Machine.execResFunct15 s
  | .resFunct16 => Sys2Proof.Machine.execResFunct16 s
  | .resFunct17 => Sys2Proof.Machine.execResFunct17 s
  | .resFunct1C => Sys2Proof.Machine.execResFunct1C s
  | .resFunct1D => Sys2Proof.Machine.execResFunct1D s
  | .resFunct1E => Sys2Proof.Machine.execResFunct1E s
  | .resFunct1F => Sys2Proof.Machine.execResFunct1F s
  | .resFunct28 => Sys2Proof.Machine.execResFunct28 s
  | .resFunct29 => Sys2Proof.Machine.execResFunct29 s
  | .resFunct2C => Sys2Proof.Machine.execResFunct2C s
  | .resFunct2D => Sys2Proof.Machine.execResFunct2D s
  | .resFunct2E => Sys2Proof.Machine.execResFunct2E s
  | .resFunct2F => Sys2Proof.Machine.execResFunct2F s
  | .resFunct30 => Sys2Proof.Machine.execResFunct30 s
  | .resFunct31 => Sys2Proof.Machine.execResFunct31 s
  | .resFunct32 => Sys2Proof.Machine.execResFunct32 s
  | .resFunct33 => Sys2Proof.Machine.execResFunct33 s
  | .resFunct34 => Sys2Proof.Machine.execResFunct34 s
  | .resFunct35 => Sys2Proof.Machine.execResFunct35 s
  | .resFunct36 => Sys2Proof.Machine.execResFunct36 s
  | .resFunct37 => Sys2Proof.Machine.execResFunct37 s
  | .resFunct38 => Sys2Proof.Machine.execResFunct38 s
  | .resFunct39 => Sys2Proof.Machine.execResFunct39 s
  | .resFunct3A => Sys2Proof.Machine.execResFunct3A s
  | .resFunct3B => Sys2Proof.Machine.execResFunct3B s
  | .resFunct3C => Sys2Proof.Machine.execResFunct3C s
  | .resFunct3D => Sys2Proof.Machine.execResFunct3D s
  | .resFunct3E => Sys2Proof.Machine.execResFunct3E s
  | .resFunct3F => Sys2Proof.Machine.execResFunct3F s
  | .resCop0Rs01 => Sys2Proof.Machine.execResCop0Rs01 s
  | .resCop0Rs02 => Sys2Proof.Machine.execResCop0Rs02 s
  | .resCop0Rs03 => Sys2Proof.Machine.execResCop0Rs03 s
  | .resCop0Rs05 => Sys2Proof.Machine.execResCop0Rs05 s
  | .resCop0Rs06 => Sys2Proof.Machine.execResCop0Rs06 s
  | .resCop0Rs07 => Sys2Proof.Machine.execResCop0Rs07 s
  | .resCop0Rs08 => Sys2Proof.Machine.execResCop0Rs08 s
  | .resCop0Rs09 => Sys2Proof.Machine.execResCop0Rs09 s
  | .resCop0Rs0A => Sys2Proof.Machine.execResCop0Rs0A s
  | .resCop0Rs0B => Sys2Proof.Machine.execResCop0Rs0B s
  | .resCop0Rs0C => Sys2Proof.Machine.execResCop0Rs0C s
  | .resCop0Rs0D => Sys2Proof.Machine.execResCop0Rs0D s
  | .resCop0Rs0E => Sys2Proof.Machine.execResCop0Rs0E s
  | .resCop0Rs0F => Sys2Proof.Machine.execResCop0Rs0F s
  | .resCop0Co00 => Sys2Proof.Machine.execResCop0Co00 s
  | .resCop0Co01 => Sys2Proof.Machine.execResCop0Co01 s
  | .resCop0Co02 => Sys2Proof.Machine.execResCop0Co02 s
  | .resCop0Co03 => Sys2Proof.Machine.execResCop0Co03 s
  | .resCop0Co04 => Sys2Proof.Machine.execResCop0Co04 s
  | .resCop0Co05 => Sys2Proof.Machine.execResCop0Co05 s
  | .resCop0Co06 => Sys2Proof.Machine.execResCop0Co06 s
  | .resCop0Co07 => Sys2Proof.Machine.execResCop0Co07 s
  | .resCop0Co08 => Sys2Proof.Machine.execResCop0Co08 s
  | .resCop0Co09 => Sys2Proof.Machine.execResCop0Co09 s
  | .resCop0Co0A => Sys2Proof.Machine.execResCop0Co0A s
  | .resCop0Co0B => Sys2Proof.Machine.execResCop0Co0B s
  | .resCop0Co0C => Sys2Proof.Machine.execResCop0Co0C s
  | .resCop0Co0D => Sys2Proof.Machine.execResCop0Co0D s
  | .resCop0Co0E => Sys2Proof.Machine.execResCop0Co0E s
  | .resCop0Co0F => Sys2Proof.Machine.execResCop0Co0F s
  | .resCop0Co11 => Sys2Proof.Machine.execResCop0Co11 s
  | .resCop0Co12 => Sys2Proof.Machine.execResCop0Co12 s
  | .resCop0Co13 => Sys2Proof.Machine.execResCop0Co13 s
  | .resCop0Co14 => Sys2Proof.Machine.execResCop0Co14 s
  | .resCop0Co15 => Sys2Proof.Machine.execResCop0Co15 s
  | .resCop0Co16 => Sys2Proof.Machine.execResCop0Co16 s
  | .resCop0Co17 => Sys2Proof.Machine.execResCop0Co17 s
  | .resCop0Co18 => Sys2Proof.Machine.execResCop0Co18 s
  | .resCop0Co19 => Sys2Proof.Machine.execResCop0Co19 s
  | .resCop0Co1A => Sys2Proof.Machine.execResCop0Co1A s
  | .resCop0Co1B => Sys2Proof.Machine.execResCop0Co1B s
  | .resCop0Co1C => Sys2Proof.Machine.execResCop0Co1C s
  | .resCop0Co1D => Sys2Proof.Machine.execResCop0Co1D s
  | .resCop0Co1E => Sys2Proof.Machine.execResCop0Co1E s
  | .resCop0Co1F => Sys2Proof.Machine.execResCop0Co1F s
  | .resCop0Co20 => Sys2Proof.Machine.execResCop0Co20 s
  | .resCop0Co21 => Sys2Proof.Machine.execResCop0Co21 s
  | .resCop0Co22 => Sys2Proof.Machine.execResCop0Co22 s
  | .resCop0Co23 => Sys2Proof.Machine.execResCop0Co23 s
  | .resCop0Co24 => Sys2Proof.Machine.execResCop0Co24 s
  | .resCop0Co25 => Sys2Proof.Machine.execResCop0Co25 s
  | .resCop0Co26 => Sys2Proof.Machine.execResCop0Co26 s
  | .resCop0Co27 => Sys2Proof.Machine.execResCop0Co27 s
  | .resCop0Co28 => Sys2Proof.Machine.execResCop0Co28 s
  | .resCop0Co29 => Sys2Proof.Machine.execResCop0Co29 s
  | .resCop0Co2A => Sys2Proof.Machine.execResCop0Co2A s
  | .resCop0Co2B => Sys2Proof.Machine.execResCop0Co2B s
  | .resCop0Co2C => Sys2Proof.Machine.execResCop0Co2C s
  | .resCop0Co2D => Sys2Proof.Machine.execResCop0Co2D s
  | .resCop0Co2E => Sys2Proof.Machine.execResCop0Co2E s
  | .resCop0Co2F => Sys2Proof.Machine.execResCop0Co2F s
  | .resCop0Co30 => Sys2Proof.Machine.execResCop0Co30 s
  | .resCop0Co31 => Sys2Proof.Machine.execResCop0Co31 s
  | .resCop0Co32 => Sys2Proof.Machine.execResCop0Co32 s
  | .resCop0Co33 => Sys2Proof.Machine.execResCop0Co33 s
  | .resCop0Co34 => Sys2Proof.Machine.execResCop0Co34 s
  | .resCop0Co35 => Sys2Proof.Machine.execResCop0Co35 s
  | .resCop0Co36 => Sys2Proof.Machine.execResCop0Co36 s
  | .resCop0Co37 => Sys2Proof.Machine.execResCop0Co37 s
  | .resCop0Co38 => Sys2Proof.Machine.execResCop0Co38 s
  | .resCop0Co39 => Sys2Proof.Machine.execResCop0Co39 s
  | .resCop0Co3A => Sys2Proof.Machine.execResCop0Co3A s
  | .resCop0Co3B => Sys2Proof.Machine.execResCop0Co3B s
  | .resCop0Co3C => Sys2Proof.Machine.execResCop0Co3C s
  | .resCop0Co3D => Sys2Proof.Machine.execResCop0Co3D s
  | .resCop0Co3E => Sys2Proof.Machine.execResCop0Co3E s
  | .resCop0Co3F => Sys2Proof.Machine.execResCop0Co3F s

end Sys2Proof.Machine
end

