-- ==== Sys2Proof/Machine/Cycle.lean ====
section
/-! DEFINITION. The CPU step (10_state R72), the move of the driver loop (70_reset_and_hazards R575), and the placing of an
instruction where the CPU fetches. -/

namespace Sys2Proof.Machine

/-- Phases 5 and 6 after an instruction (10_state R79, R81). -/
def thenEndStep : Result → Result
  | .next s => .next s.endStep
  | .fault r => .fault r
  | .refused r => .refused r

/-- One CPU step (10_state R72): the start (R73), the fetch or its address error (R74), execution with its commit (R75, R77), and
the poll and the cycle charge (R79, R81). -/
def cpuStep (s : State) : Result :=
  let t := s.startStep
  if aligned .word t.pc then
    match fetchInstr t.pc t with
    | .ok (i, u) => thenEndStep (exec i u.advance)
    | .error r => .refused r
  else thenEndStep (raiseAt .adEL t.pc t)

/-- One move of the driver loop (70_reset_and_hazards R575, log 8): while the cycle counter is below the next deadline, a CPU step;
otherwise the firing of the event that is due, or, where none is due, the next-wake value that `handleEvents` leaves
(60_exceptions R484) and then a CPU step. A state whose refusal mark is set has no step (10_state R69). -/
def driverMove (s : State) : Result :=
  if s.refusalMark then .fault .refusedState
  else if s.cycles < s.nextWake then cpuStep s
  else
    match s.dueEvent with
    | some e => fireEvent e s
    | none => cpuStep { s with nextWake := leastTarget s.queue }

/-- The state with a word stored in RAM or ROM where a fetch from an address finds it; unchanged where a fetch from that address
is refused. -/
def State.placeWord (s : State) (a w : Word) : State :=
  match fetchPlace s.cfg a with
  | .ok (k, _) => { s with mem := Memory.writeVal s.mem k w .word }
  | .error _ => s

end Sys2Proof.Machine
end

