-- ==== Sys2Proof/Machine/Step.lean ====
section
/-! DEFINITION. One step of the machine, and the placing of an instruction for its next step. -/

namespace Sys2Proof.Machine

/-- One step: one move of the driver loop (70_reset_and_hazards R575; log 8). -/
def step (s : State) : Host.Outcome State Fault Refusal := driverMove s

/-- The state with the instruction the opcode table numbers as `nbits` bits of `w` stored where the CPU fetches its next
instruction, at `pc`. It stands for the installing of the boot image (log 2). The next step runs that instruction when the
refusal mark is clear, no event is due, and `pc` is aligned and lies in RAM or ROM, as after reset. -/
def State.withFetchWord (s : State) (nbits w : Nat) : State := s.placeWord s.pc (tableWord nbits w)

end Sys2Proof.Machine
end

