-- ==== Sys2Proof/Machine/HostActions.lean ====
section
/-! DEFINITION. What the host does to the machine between steps (70_reset_and_hazards R560, R562, R565, R580): the installing of the
boot image, a machine reset, and the side-load of an executable. No step runs them; they are the events from outside (log 13). -/

namespace Sys2Proof.Machine

/-- Memory with bytes written one after another from an address. -/
def Memory.writeBytes (m : Memory) (a : Nat) : List Byte → Memory
  | [] => m
  | b :: bs => Memory.writeBytes (m.write a b) (a + 1) bs

/-- The boot ROM's part of memory: the cells of its addresses (20_memory R108). -/
def Memory.romPart : Memory → Memory
  | [] => []
  | (a, b) :: m =>
    if Config.romBase ≤ a ∧ a < Config.romBase + Config.romSize then (a, b) :: Memory.romPart m else Memory.romPart m

/-- The installing of the boot image: exactly the ROM's 512 KiB; a wrong size is not admitted (70_reset_and_hazards R580). -/
def State.installImage (image : List Byte) (s : State) : Option State :=
  if image.length = Config.romSize then some { s with mem := Memory.writeBytes s.mem Config.romBase image } else none

/-- A machine reset (70_reset_and_hazards R560): every state element at its reset value, ROM as it was (R562), and the model's own
fields and the configuration as they were. -/
def State.machineReset (s : State) : State :=
  { State.reset with
    mem := Memory.romPart s.mem
    draws := s.draws
    script := s.script
    extLog := s.extLog
    cfg := s.cfg }

/-- Bytes copied into RAM from a load address, through the raw accessor (70_reset_and_hazards R565). DESIGN CHOICE (log 13): every
load address is a RAM offset modulo 2 MiB, also one outside RAM (the scratchpad's, the ROM's), and past the last byte of RAM the
copy goes on at the first; the spec says only that the code goes into RAM at the load address. -/
def Memory.loadRam (m : Memory) (a : Nat) : List Byte → Memory
  | [] => m
  | b :: bs => Memory.loadRam (m.write (a % Config.ramSize) b) (a + 1) bs

/-- The side-load of an executable (70_reset_and_hazards R565, R580): its code into RAM at the load address, `pc` and `nextpc` at
its entry, r28 set. -/
def State.sideLoad (entry gp load : Word) (code : List Byte) (s : State) : State :=
  { s with
    mem := Memory.loadRam s.mem load.toNat code
    pc := entry
    nextpc := entry + 4#32
    regs := writeFile s.regs 28#5 gp }

end Sys2Proof.Machine
end

