-- ==== Sys2Proof/Safety.lean ====
section
/-! DEFINITION. What counts as a safe state and a right next state, in the terms the claims use. Nothing here is used by the machine:
each notion is written from the spec's rule a second time, by bits, bytes and numbers, so that a claim says more than the model. -/

namespace Sys2Proof.Machine

/-! ### The invariant -/

/-- What every step keeps, from every state that has it. -/
structure State.Inv (s : State) : Prop where
  /-- The configuration is one the spec admits (20_memory R110, R111). -/
  cfgWf : s.cfg.wf = true
  /-- Memory is in canonical form. -/
  memWf : Memory.wf s.mem = true
  /-- The cell of register 0 holds zero (10_state R41). -/
  regZero : s.regs[0] = 0#32
  /-- The bits of the stored Cause that are zero in every state (10_state R53, R54). -/
  causeReserved : s.cause &&& 0x3FFFFC83#32 = 0#32
  /-- DICR bits 14:6 are zero (60_exceptions R507). -/
  dicrReserved : s.dicr &&& 0x00007FC0#32 = 0#32
  /-- DICR bit 31 is the master value (60_exceptions R510, R511). -/
  dicrMaster : s.dicr.getLsbD 31 = masterValue s.dicr
  /-- The sentinel is in the queue (60_exceptions R481). -/
  sentinel : sentinelEvent ∈ s.queue
  /-- Every other entry lies below the sentinel and was numbered before the next number (60_exceptions R481, R482). -/
  entries : ∀ e ∈ s.queue, e ≠ sentinelEvent → e.payload ≠ .sentinel ∧ e.target < 2 ^ 64 - 1 ∧ e.seq < s.seq
  /-- The entries stand in the order of their numbers, each number once (60_exceptions R481). -/
  numbered : (s.queue.filter (fun e => e.payload != .sentinel)).Pairwise (fun a b => a.seq < b.seq)
  /-- The next-wake value is the least target of the queue (60_exceptions R485). -/
  wake : s.nextWake ∈ s.queue.map Event.target ∧ ∀ e ∈ s.queue, s.nextWake ≤ e.target

/-! ### How an instruction ends (10_state R77) -/

/-- The value a register has after the commit when this step writes nothing to it: the pending load's, unless this step's own
load has the same target. -/
def loadedReg (s : State) (l : Option RegWrite) (r : Reg) : Word :=
  match s.pending with
  | some p => if p.reg = r ∧ l.map RegWrite.reg ≠ some r then p.val else s.readReg r
  | none => s.readReg r

/-- The value a register has after the commit of a step with the write `w` and the load `l`. -/
def committedReg (s : State) (w l : Option RegWrite) (r : Reg) : Word :=
  if r = 0#5 then 0#32
  else
    match w with
    | some q => if q.reg = r then q.val else loadedReg s l r
    | none => loadedReg s l r

/-- `t` is `s` after the commit of a step with the write `w` and the load `l`, and differs from `s` in nothing else. -/
structure EndsWith (s t : State) (w l : Option RegWrite) : Prop where
  regs : ∀ r : Reg, t.readReg r = committedReg s w l r
  pending : t.pending = l
  frame : t = { s with regs := t.regs, pending := t.pending }

/-! ### Taking an exception (60_exceptions R430, R436 to R439) -/

/-- The number of an exception (60_exceptions R430). -/
def Exc.number : Exc → Nat
  | .int => 0
  | .adEL => 4
  | .adES => 5
  | .sys => 8
  | .bp => 9
  | .ri => 10
  | .ov => 12

/-- `u` is `s` after the entry of an exception, and differs from `s` in nothing else. -/
structure Entered (s u : State) (c : Exc) (ba : Word) : Prop where
  /-- The mode stack moves up by one pair, and the current pair becomes 0. -/
  stack : ∀ k, k < 6 → u.sr.getLsbD k = (if k < 2 then false else s.sr.getLsbD (k - 2))
  /-- SR bits 31:6 stand. -/
  srRest : ∀ k, 6 ≤ k → u.sr.getLsbD k = s.sr.getLsbD k
  /-- ExcCode. -/
  code : (u.cause.extractLsb' 2 5).toNat = c.number
  /-- Cause bits 9:8, by CAUSE_ENTRY_MODE. -/
  software : ∀ k, k = 8 ∨ k = 9 → u.cause.getLsbD k = (s.cfg.causeEntryMode == .preserveIP && s.cause.getLsbD k)
  /-- The bits of the stored Cause that are always 0. -/
  causeRest : u.cause &&& 0x3FFFFC83#32 = 0#32
  /-- An interrupt after a branch: the branch is re-executed. -/
  intSlot : c = .int → s.flagB = true →
    u.epc + 4#32 = s.pc ∧ u.cause.getLsbD 31 = true ∧ u.cause.getLsbD 30 = s.flagT
  /-- An interrupt elsewhere. -/
  intPlain : c = .int → s.flagB = false → u.epc = s.pc ∧ u.cause.getLsbD 31 = false ∧ u.cause.getLsbD 30 = false
  /-- A synchronous exception in a delay slot. -/
  syncSlot : c ≠ .int → s.flagDS = true →
    u.epc + 4#32 = s.curpc ∧ u.cause.getLsbD 31 = true ∧ u.cause.getLsbD 30 = s.flagDT
  /-- A synchronous exception elsewhere. -/
  syncPlain : c ≠ .int → s.flagDS = false → u.epc = s.curpc ∧ u.cause.getLsbD 31 = false ∧ u.cause.getLsbD 30 = false
  /-- BadVaddr, of the two address errors alone. -/
  bad : u.badVaddr = (if c = .adEL ∨ c = .adES then ba else s.badVaddr)
  /-- The vector, by SR.BEV. -/
  target : u.pc = (if s.sr.getLsbD 22 then 0xBFC00180#32 else 0x80000080#32)
  after : u.nextpc = u.pc + 4#32
  noBranch : u.flagB = false ∧ u.flagT = false
  frame : u = { s with
    sr := u.sr, cause := u.cause, epc := u.epc, badVaddr := u.badVaddr, pc := u.pc, nextpc := u.nextpc,
    flagB := u.flagB, flagT := u.flagT }

/-- `t` is `s` after an instruction that raised an exception: its entry, and the commit with no write and no load of the step
(10_state R80). -/
def Raises (s t : State) (c : Exc) (ba : Word) : Prop := ∃ u, Entered s u c ba ∧ EndsWith u t none none

/-! ### Addresses by number (20_memory R102 to R111) -/

/-- The physical address of a virtual one: the segments by their ranges. -/
def virtPhys (a : Word) : Nat :=
  if a.toNat < 0x80000000 then a.toNat
  else if a.toNat < 0xA0000000 then a.toNat - 0x80000000
  else if a.toNat < 0xC0000000 then a.toNat - 0xA0000000
  else a.toNat

/-- The address lies in KSEG1. -/
abbrev inKseg1 (a : Word) : Prop := 0xA0000000 ≤ a.toNat ∧ a.toNat < 0xC0000000
/-- The address reaches RAM. -/
abbrev inRam (s : State) (a : Word) : Prop := virtPhys a < s.cfg.ramWindow
/-- The address reaches the boot ROM. -/
abbrev inRom (a : Word) : Prop := 0x1FC00000 ≤ virtPhys a ∧ virtPhys a ≤ 0x1FC7FFFF
/-- The address reaches the scratchpad, or its refused mirror in KSEG1. -/
abbrev inScratch (a : Word) : Prop := 0x1F800000 ≤ virtPhys a ∧ virtPhys a ≤ 0x1F8003FF
/-- The address reaches I_STAT or I_MASK. -/
abbrev inIrq (a : Word) : Prop := 0x1F801070 ≤ virtPhys a ∧ virtPhys a ≤ 0x1F801077
/-- The address reaches a DMA register. -/
abbrev inDma (a : Word) : Prop := 0x1F801080 ≤ virtPhys a ∧ virtPhys a ≤ 0x1F8010FF
/-- The address reaches an external range, this one. -/
abbrev inRange (a : Word) (r : ExtRange) : Prop := r.base ≤ virtPhys a ∧ virtPhys a < r.base + r.size
/-- The address reaches nothing. -/
def inNothing (s : State) (a : Word) : Prop :=
  ¬ inRam s a ∧ ¬ inRom a ∧ ¬ inScratch a ∧ ¬ inIrq a ∧ ¬ inDma a ∧ ∀ r ∈ s.cfg.externalRanges, ¬ inRange a r
/-- The address reaches bytes a program can store to: RAM, or the scratchpad outside KSEG1. -/
abbrev inStore (s : State) (a : Word) : Prop := inRam s a ∨ (inScratch a ∧ ¬ inKseg1 a)
/-- SR.Isc is set. -/
abbrev isolated (s : State) : Prop := s.sr.getLsbD 16 = true

/-- Where memory keeps the byte of an address that reaches RAM, ROM or the scratchpad: the 2 MiB of RAM repeat. -/
def cellOf (s : State) (a : Word) : Nat := if inRam s a then virtPhys a % 0x200000 else virtPhys a

/-- The number whose little-endian bytes stand in memory from an address (20_memory R101). -/
def leNat (m : Memory) (k : Nat) : Nat → Nat
  | 0 => 0
  | n + 1 => (Memory.read m k).toNat + 256 * leNat m (k + 1) n

/-! ### What a data read answers (20_memory R113, R125; 60_exceptions R502) -/

/-- The word at a byte offset of the DMA register window (60_exceptions R502). -/
def dmaWord (s : State) (o : Nat) : Word :=
  if h : o / 16 < 7 then
    if o % 16 = 0 then s.chans[o / 16].madr
    else if o % 16 = 4 then s.chans[o / 16].bcr
    else if o % 16 = 8 then s.chans[o / 16].chcr
    else 0#32
  else if o = 0x70 then s.dpcr
  else if o = 0x74 then s.dicr
  else 0#32

/-- `x` is what an aligned data read of a width answers, wherever the spec gives it a value of its own: everywhere but in an
external range, which answers a free value. A read the spec refuses has no answer. -/
inductive Answers (s : State) (a : Word) (w : Width) : Nat → Prop where
  | isolated : isolated s → Answers s a w 0
  | memory : ¬ isolated s → inStore s a ∨ inRom a → Answers s a w (leNat s.mem (cellOf s a) w.bytes)
  | iStat : ¬ isolated s → w ≠ .byte → virtPhys a = 0x1F801070 → Answers s a w s.iStat.toNat
  | iMask : ¬ isolated s → w ≠ .byte → virtPhys a = 0x1F801074 → Answers s a w s.iMask.toNat
  | upper : ¬ isolated s → w ≠ .byte → virtPhys a = 0x1F801072 ∨ virtPhys a = 0x1F801076 → Answers s a w 0
  | dma : ¬ isolated s → w = .word → inDma a → Answers s a w (dmaWord s (virtPhys a - 0x1F801080)).toNat
  | unmapped : ¬ isolated s → inNothing s a → Answers s a w 0

/-- The cycles a data access charges (20_memory R117). -/
def accessCycles (s : State) (a : Word) : Nat :=
  s.cfg.dataAccessCycles + (if ¬ isolated s ∧ inRom a then s.cfg.romExtraCycles else 0)

/-- An address that is a multiple of a width. -/
abbrev alignedTo (w : Width) (a : Word) : Prop := a.toNat % w.bytes = 0

/-! ### A turn of the external collaborators (60_exceptions R481 to R483, 70_reset_and_hazards R580) -/

/-- The calls the collaborators make at their next turn. -/
def State.nextCalls (s : State) : List CollabCall := s.script.headD []

/-- No call of the next turn is one the spec refuses (20_memory R123, 60_exceptions R482). -/
def State.turnAllowed (s : State) : Prop :=
  ∀ c ∈ s.nextCalls,
    match c with
    | .triggerInterrupt n => n < 16
    | .scheduleEvent delta _ => s.cycles + delta < 2 ^ 64 - 1
    | .scheduleInterrupt delta _ => s.cycles + delta < 2 ^ 64 - 1

/-- The entries the calls of a turn insert, the first with the number `k`. -/
def insertedEvents (cycles : Nat) : Nat → List CollabCall → List Event
  | _, [] => []
  | k, .triggerInterrupt _ :: cs => insertedEvents cycles k cs
  | k, .scheduleEvent delta n :: cs => ⟨cycles + delta, k, .ext n⟩ :: insertedEvents cycles (k + 1) cs
  | k, .scheduleInterrupt delta n :: cs => ⟨cycles + delta, k, .irq n⟩ :: insertedEvents cycles (k + 1) cs

/-- `u` is `s` after the collaborators' next turn, and differs from `s` in nothing else. -/
structure TookTurn (s u : State) : Prop where
  iStat : ∀ n, n < 16 → u.iStat.getLsbD n = (s.iStat.getLsbD n || s.nextCalls.contains (.triggerInterrupt n))
  queue : u.queue = s.queue ++ insertedEvents s.cycles s.seq s.nextCalls
  seq : u.seq = s.seq + (insertedEvents s.cycles s.seq s.nextCalls).length
  wake : u.nextWake = (insertedEvents s.cycles s.seq s.nextCalls).foldl (fun m e => min m e.target) s.nextWake
  script : u.script = s.script.tail
  frame : u = { s with iStat := u.iStat, queue := u.queue, seq := u.seq, nextWake := u.nextWake, script := u.script }

/-! ### The forms of loads and stores -/

/-- A load or store: its width, whether a load extends the sign, its register and its address operands. -/
structure AccessForm where
  width : Width
  signed : Bool
  rt : Reg
  rs : Reg
  imm : Half
  deriving DecidableEq, Repr

/-- The value a load gives its register from the number `v` that was read: the sign of the width extended, or zeros. -/
def AccessForm.extend (f : AccessForm) (v : Nat) : Word :=
  if f.signed ∧ 2 ^ (8 * f.width.bytes - 1) ≤ v then BitVec.ofInt 32 ((v : Int) - (2 : Int) ^ (8 * f.width.bytes))
  else BitVec.ofNat 32 v

/-- The byte `j` of LWL's result at the address `a`, from the number `v` read at the aligned word and the register's value `c`:
the bytes from `a` down to the word's start fill the register from its top (43_loadstore R360). -/
def lwlByte (a : Word) (c : Word) (v j : Nat) : Nat :=
  if 3 ≤ j + a.toNat % 4 then v / 256 ^ (j + a.toNat % 4 - 3) % 256 else c.toNat / 256 ^ j % 256

/-- The byte `j` of LWR's result: the bytes from `a` up to the word's end fill the register from its bottom (43_loadstore R360). -/
def lwrByte (a : Word) (c : Word) (v j : Nat) : Nat :=
  if j + a.toNat % 4 ≤ 3 then v / 256 ^ (j + a.toNat % 4) % 256 else c.toNat / 256 ^ j % 256

/-! ### Branches (42_branch R310 to R312) -/

/-- The instruction answers a next state: `flagB` is set; if the condition holds, `flagT` is set and `nextpc` is
`curpc + 4 + 4 * imm`; a link register, where there is one, gets `curpc + 8`; nothing else changes but for the commit. -/
def BranchesTo (i : Instr) (s : State) (cond : Prop) (imm : Half) (link : Option Reg) : Prop :=
  ∃ t x, exec i s = .next t ∧ (x.toNat : Int) = ((s.curpc.toNat : Int) + 4 + 4 * imm.toInt) % 2 ^ 32 ∧
    (cond → EndsWith { s with flagB := true, flagT := true, nextpc := x } t (link.map (fun r => ⟨r, s.curpc + 8#32⟩)) none) ∧
    (¬ cond → EndsWith { s with flagB := true } t (link.map (fun r => ⟨r, s.curpc + 8#32⟩)) none)

/-! ### The DMA controller by number (60_exceptions R503 to R518) -/

/-- The RAM offset a DMA address reaches (60_exceptions R503). -/
def ramOffset (a : Word) : Nat := a.toNat % 0x200000 / 4 * 4

/-- The address of the `i`-th word of a transfer that starts at an address and steps by 4, up or down (60_exceptions R516). -/
def dmaAddr (a : Word) (down : Bool) (i : Nat) : Word :=
  if down then a - BitVec.ofNat 32 (4 * i) else a + BitVec.ofNat 32 (4 * i)

/-- RAM after a transfer has written words at addresses, in their order: an offset that is written holds what the last write to
it put there, and every byte that no write reaches is as before. -/
def WordsWritten (before after : Memory) (count : Nat) (at' : Nat → Word) (val : Nat → Word) : Prop :=
  (∀ i, i < count → (∀ j, i < j → j < count → ramOffset (at' j) ≠ ramOffset (at' i)) →
    leNat after (ramOffset (at' i)) 4 = (val i).toNat) ∧
  ∀ b, (∀ i, i < count → b < ramOffset (at' i) ∨ ramOffset (at' i) + 4 ≤ b) → Memory.read after b = Memory.read before b

/-- The payload words of the node at a RAM offset (60_exceptions R518). -/
def nodePayload (m : Memory) (o : Nat) : List Word :=
  (List.range (leNat m o 4 / 2 ^ 24)).map (fun k => BitVec.ofNat 32 (leNat m ((o + 4 * (k + 1)) % 0x200000) 4))

/-- A walk of linked nodes from a RAM offset, with the nodes already seen, that ends at a terminal node: the words it sends
(60_exceptions R518). -/
inductive ListWalk (m : Memory) : List Nat → Nat → List Word → Prop where
  | last (seen : List Nat) (o : Nat) : o ∉ seen → leNat m o 4 / 2 ^ 23 % 2 = 1 → ListWalk m seen o (nodePayload m o)
  | node (seen : List Nat) (o : Nat) (ws : List Word) : o ∉ seen → leNat m o 4 / 2 ^ 23 % 2 = 0 →
      ListWalk m (o :: seen) (leNat m o 4 % 2 ^ 22 % 0x200000 / 4 * 4) ws → ListWalk m seen o (nodePayload m o ++ ws)

/-- The master flag of a DICR value (60_exceptions R510). -/
def masterFlag (d : Word) : Prop :=
  d.getLsbD 15 = true ∨ (d.getLsbD 23 = true ∧ ∃ n, n < 7 ∧ d.getLsbD (16 + n) = true ∧ d.getLsbD (24 + n) = true)

/-- `t` is `s` with a new DICR whose bits 30:0 are given: bit 31 is the master flag, and its rise, and nothing else, queues
interrupt 3 after DMA_IRQ_DELAY cycles (60_exceptions R511, R512). -/
structure NewDicr (s t : State) (bits : Nat → Bool) : Prop where
  low : ∀ k, k < 31 → t.dicr.getLsbD k = bits k
  master : t.dicr.getLsbD 31 = true ↔ masterFlag t.dicr
  rise : s.dicr.getLsbD 31 = false → masterFlag t.dicr →
    t.queue = s.queue ++ [⟨s.cycles + s.cfg.dmaIrqDelay, s.seq, .irq 3⟩] ∧ t.seq = s.seq + 1 ∧
    t.nextWake = min s.nextWake (s.cycles + s.cfg.dmaIrqDelay)
  steady : s.dicr.getLsbD 31 = true ∨ ¬ masterFlag t.dicr → t.queue = s.queue ∧ t.seq = s.seq ∧ t.nextWake = s.nextWake
  frame : t = { s with dicr := t.dicr, queue := t.queue, seq := t.seq, nextWake := t.nextWake }

/-- A channel is active (60_exceptions R509). -/
def Channel.startsTransfer (c : Channel) : Prop :=
  c.chcr.toNat / 2 ^ 24 % 2 = 1 ∧ (c.chcr.toNat / 2 ^ 9 % 4 ≠ 0 ∨ c.chcr.toNat / 2 ^ 28 % 2 = 1)

/-- A count register's half, 0x10000 where it is zero (60_exceptions R504). -/
def countNat (h : Nat) : Nat := if h = 0 then 0x10000 else h

/-- The number of words of a transfer: `BS`, or `BS * BA` in Request sync (60_exceptions R504). -/
def Channel.words (c : Channel) : Nat :=
  if c.chcr.toNat / 2 ^ 9 % 4 = 0 then countNat (c.bcr.toNat % 2 ^ 16)
  else countNat (c.bcr.toNat % 2 ^ 16) * countNat (c.bcr.toNat / 2 ^ 16)

end Sys2Proof.Machine

namespace Sys2Proof

open Sys2Proof.Machine

/-! ### Instructions by the spec's tables -/

/-- The loads of a whole byte, halfword or word (43_loadstore R354 to R359). -/
def Instr.plainLoad : Instr → Option AccessForm
  | .lb rt rs imm => some ⟨.byte, true, rt, rs, imm⟩
  | .lbu rt rs imm => some ⟨.byte, false, rt, rs, imm⟩
  | .lh rt rs imm => some ⟨.half, true, rt, rs, imm⟩
  | .lhu rt rs imm => some ⟨.half, false, rt, rs, imm⟩
  | .lw rt rs imm => some ⟨.word, false, rt, rs, imm⟩
  | _ => none

/-- The stores of a whole byte, halfword or word (43_loadstore R363, R365, R366). -/
def Instr.plainStore : Instr → Option AccessForm
  | .sb rt rs imm => some ⟨.byte, false, rt, rs, imm⟩
  | .sh rt rs imm => some ⟨.half, false, rt, rs, imm⟩
  | .sw rt rs imm => some ⟨.word, false, rt, rs, imm⟩
  | _ => none

/-- The condition code `rt` of a REGIMM branch, with its register and its offset (30_encoding R192). -/
def Instr.regimm : Instr → Option (BitVec 5 × Reg × Half)
  | .bltz rs imm => some (0x00#5, rs, imm)
  | .bgez rs imm => some (0x01#5, rs, imm)
  | .bltzal rs imm => some (0x10#5, rs, imm)
  | .bgezal rs imm => some (0x11#5, rs, imm)
  | .bltzRt02 rs imm => some (0x02#5, rs, imm)
  | .bgezRt03 rs imm => some (0x03#5, rs, imm)
  | .bltzRt04 rs imm => some (0x04#5, rs, imm)
  | .bgezRt05 rs imm => some (0x05#5, rs, imm)
  | .bltzRt06 rs imm => some (0x06#5, rs, imm)
  | .bgezRt07 rs imm => some (0x07#5, rs, imm)
  | .bltzRt08 rs imm => some (0x08#5, rs, imm)
  | .bgezRt09 rs imm => some (0x09#5, rs, imm)
  | .bltzRt0A rs imm => some (0x0A#5, rs, imm)
  | .bgezRt0B rs imm => some (0x0B#5, rs, imm)
  | .bltzRt0C rs imm => some (0x0C#5, rs, imm)
  | .bgezRt0D rs imm => some (0x0D#5, rs, imm)
  | .bltzRt0E rs imm => some (0x0E#5, rs, imm)
  | .bgezRt0F rs imm => some (0x0F#5, rs, imm)
  | .bltzRt12 rs imm => some (0x12#5, rs, imm)
  | .bgezRt13 rs imm => some (0x13#5, rs, imm)
  | .bltzRt14 rs imm => some (0x14#5, rs, imm)
  | .bgezRt15 rs imm => some (0x15#5, rs, imm)
  | .bltzRt16 rs imm => some (0x16#5, rs, imm)
  | .bgezRt17 rs imm => some (0x17#5, rs, imm)
  | .bltzRt18 rs imm => some (0x18#5, rs, imm)
  | .bgezRt19 rs imm => some (0x19#5, rs, imm)
  | .bltzRt1A rs imm => some (0x1A#5, rs, imm)
  | .bgezRt1B rs imm => some (0x1B#5, rs, imm)
  | .bltzRt1C rs imm => some (0x1C#5, rs, imm)
  | .bgezRt1D rs imm => some (0x1D#5, rs, imm)
  | .bltzRt1E rs imm => some (0x1E#5, rs, imm)
  | .bgezRt1F rs imm => some (0x1F#5, rs, imm)
  | _ => none

/-- The reserved encodings (30_encoding R193, R195, R196). -/
def Instr.isReserved : Instr → Bool
  | .resOp11 => true
  | .resOp13 => true
  | .resOp14 => true
  | .resOp15 => true
  | .resOp16 => true
  | .resOp17 => true
  | .resOp18 => true
  | .resOp19 => true
  | .resOp1A => true
  | .resOp1B => true
  | .resOp1C => true
  | .resOp1D => true
  | .resOp1E => true
  | .resOp1F => true
  | .resOp27 => true
  | .resOp2C => true
  | .resOp2D => true
  | .resOp2F => true
  | .resOp30 => true
  | .resOp31 => true
  | .resOp33 => true
  | .resOp34 => true
  | .resOp35 => true
  | .resOp36 => true
  | .resOp37 => true
  | .resOp38 => true
  | .resOp39 => true
  | .resOp3B => true
  | .resOp3C => true
  | .resOp3D => true
  | .resOp3E => true
  | .resOp3F => true
  | .resFunct01 => true
  | .resFunct05 => true
  | .resFunct0A => true
  | .resFunct0B => true
  | .resFunct0E => true
  | .resFunct0F => true
  | .resFunct14 => true
  | .resFunct15 => true
  | .resFunct16 => true
  | .resFunct17 => true
  | .resFunct1C => true
  | .resFunct1D => true
  | .resFunct1E => true
  | .resFunct1F => true
  | .resFunct28 => true
  | .resFunct29 => true
  | .resFunct2C => true
  | .resFunct2D => true
  | .resFunct2E => true
  | .resFunct2F => true
  | .resFunct30 => true
  | .resFunct31 => true
  | .resFunct32 => true
  | .resFunct33 => true
  | .resFunct34 => true
  | .resFunct35 => true
  | .resFunct36 => true
  | .resFunct37 => true
  | .resFunct38 => true
  | .resFunct39 => true
  | .resFunct3A => true
  | .resFunct3B => true
  | .resFunct3C => true
  | .resFunct3D => true
  | .resFunct3E => true
  | .resFunct3F => true
  | .resCop0Rs01 => true
  | .resCop0Rs02 => true
  | .resCop0Rs03 => true
  | .resCop0Rs05 => true
  | .resCop0Rs06 => true
  | .resCop0Rs07 => true
  | .resCop0Rs08 => true
  | .resCop0Rs09 => true
  | .resCop0Rs0A => true
  | .resCop0Rs0B => true
  | .resCop0Rs0C => true
  | .resCop0Rs0D => true
  | .resCop0Rs0E => true
  | .resCop0Rs0F => true
  | .resCop0Co00 => true
  | .resCop0Co01 => true
  | .resCop0Co02 => true
  | .resCop0Co03 => true
  | .resCop0Co04 => true
  | .resCop0Co05 => true
  | .resCop0Co06 => true
  | .resCop0Co07 => true
  | .resCop0Co08 => true
  | .resCop0Co09 => true
  | .resCop0Co0A => true
  | .resCop0Co0B => true
  | .resCop0Co0C => true
  | .resCop0Co0D => true
  | .resCop0Co0E => true
  | .resCop0Co0F => true
  | .resCop0Co11 => true
  | .resCop0Co12 => true
  | .resCop0Co13 => true
  | .resCop0Co14 => true
  | .resCop0Co15 => true
  | .resCop0Co16 => true
  | .resCop0Co17 => true
  | .resCop0Co18 => true
  | .resCop0Co19 => true
  | .resCop0Co1A => true
  | .resCop0Co1B => true
  | .resCop0Co1C => true
  | .resCop0Co1D => true
  | .resCop0Co1E => true
  | .resCop0Co1F => true
  | .resCop0Co20 => true
  | .resCop0Co21 => true
  | .resCop0Co22 => true
  | .resCop0Co23 => true
  | .resCop0Co24 => true
  | .resCop0Co25 => true
  | .resCop0Co26 => true
  | .resCop0Co27 => true
  | .resCop0Co28 => true
  | .resCop0Co29 => true
  | .resCop0Co2A => true
  | .resCop0Co2B => true
  | .resCop0Co2C => true
  | .resCop0Co2D => true
  | .resCop0Co2E => true
  | .resCop0Co2F => true
  | .resCop0Co30 => true
  | .resCop0Co31 => true
  | .resCop0Co32 => true
  | .resCop0Co33 => true
  | .resCop0Co34 => true
  | .resCop0Co35 => true
  | .resCop0Co36 => true
  | .resCop0Co37 => true
  | .resCop0Co38 => true
  | .resCop0Co39 => true
  | .resCop0Co3A => true
  | .resCop0Co3B => true
  | .resCop0Co3C => true
  | .resCop0Co3D => true
  | .resCop0Co3E => true
  | .resCop0Co3F => true
  | _ => false

end Sys2Proof
end

