-- ==== Sys2Proof/Certificates/Slice0/Obligations.lean ====
section
/-! DEFINITION. The statements for the provers: what the spec's rules say the machine does, as propositions about every state. -/

section

open Sys2Proof Sys2Proof.Machine

/-- A step runs the decoded instruction (R72, R73, R74, R75, R79, R81, R115, R575). When no refusal is recorded, no
deadline is reached, pc is aligned and the four bytes a fetch finds decode to i, the step is exec of i in the state
after the step start and the fetch (curpc, the flag copy, B and T cleared, pc and nextpc advanced, the fetch cycles
charged), followed by the interrupt poll and the cycle charge. A fault or a refusal of exec is the step's. (That exec
is the execution and the commit, and that a CPU step is one step of the driver loop, is the model's form, log 8 and
16.) -/
def Obligations.StepRunsTheDecodedInstruction : Prop :=
  ∀ (s : State) (k c : Nat) (i : Instr), s.refusalMark = false → s.cycles < s.nextWake → s.pc.toNat % 4 = 0 →
    fetchPlace s.cfg s.pc = .ok (k, c) →
    decodeBytes [Memory.read s.mem k, Memory.read s.mem (k + 1), Memory.read s.mem (k + 2), Memory.read s.mem (k + 3)]
      = .ok (i, []) →
    step s =
      match exec i { s with
        curpc := s.pc, flagDS := s.flagB, flagDT := s.flagT, flagB := false, flagT := false,
        pc := s.nextpc, nextpc := s.nextpc + 4#32, cycles := s.cycles + c } with
      | .next t => .next { t.poll with cycles := t.poll.cycles + s.cfg.cyclesPerInstr }
      | .fault f => .fault f
      | .refused r => .refused r

/-- Where an instruction fetch finds its word, and where it is refused (R103, R104, R108, R115, R116, R117, R119, R447).
Under a well-formed configuration an aligned fetch address that reaches RAM finds its word at the RAM offset (the 2
MiB repeat) and charges nothing; one that reaches ROM finds it in ROM and charges ROM_EXTRA_CYCLES; a step at any
other address is refused, by the scratchpad name through KSEG1 and by the fetch name elsewhere. SR.Isc plays no part. -/
def Obligations.FetchFindsRamAndRom : Prop :=
  ∀ s : State, s.cfg.wf = true → s.pc.toNat % 4 = 0 →
    (inRam s s.pc → fetchPlace s.cfg s.pc = .ok (virtPhys s.pc % 0x200000, 0)) ∧
    (inRom s.pc → fetchPlace s.cfg s.pc = .ok (virtPhys s.pc, s.cfg.romExtraCycles)) ∧
    (¬ inRam s s.pc → ¬ inRom s.pc → s.refusalMark = false → s.cycles < s.nextWake →
      (inScratch s.pc ∧ inKseg1 s.pc → step s = .refused .scratchpadThroughKseg1) ∧
      (¬ (inScratch s.pc ∧ inKseg1 s.pc) → step s = .refused .fetchOutsideRamAndRom))

/-- A misaligned pc raises AdEL instead of fetching (R74, R80, R431, R433, R437, R439). When pc is not a multiple of 4 the
step answers a next state: AdEL is entered with BadVaddr = pc, the pending load commits, no interrupt is taken, and
only the cycles of the instruction are charged. -/
def Obligations.MisalignedFetchRaises : Prop :=
  ∀ s : State, s.refusalMark = false → s.cycles < s.nextWake → s.pc.toNat % 4 ≠ 0 →
    ∃ t, step s = .next { t with cycles := t.cycles + s.cfg.cyclesPerInstr } ∧
      Raises { s with curpc := s.pc, flagDS := s.flagB, flagDT := s.flagT, flagB := false, flagT := false } t .adEL s.pc

/-- Words written out from the encodings decode to their instructions (R182, R184, R190, R191, R193, R202). One word of
each group, written out from the formats and the maps, decodes to the instruction it stands for: the three words of
R202, and words of an R-format, a shift, a jump, a COP0 and a COP2 instruction. -/
def Obligations.SampleWordsDecode : Prop :=
  decode 0x8C850000#32 = .lw 5#5 4#5 0#16 ∧ decode 0x24060001#32 = .addiu 6#5 0#5 1#16 ∧
    decode 0x00000000#32 = .sll 0#5 0#5 0#5 ∧ decode 0x00221820#32 = .add 3#5 1#5 2#5 ∧
    decode 0x00011FC0#32 = .sll 3#5 1#5 31#5 ∧ decode 0x0C040000#32 = .jal 0x40000#26 ∧
    decode 0x408C6000#32 = .mtc0 12#5 12#5 ∧ decode 0x42000010#32 = .rfe ∧
    decode 0x4A000001#32 = .cop2 0x2000001#26 ∧ decode 0xFC000000#32 = .resOp3F

/-- Words of the I and J formats decode by the primary map (R182, R183, R190, R194, R197). For every value of every field,
used or ignored, a word of the I or J format with a primary opcode of R190 decodes to that opcode's instruction with
its operands from their fields. -/
def Obligations.PrimaryWordsDecode : Prop :=
  ∀ (rs rt : Reg) (imm : Half) (t : BitVec 26),
    decode (mkJ 0x02#6 t) = .j t ∧ decode (mkJ 0x03#6 t) = .jal t ∧
    decode (mkI 0x04#6 rs rt imm) = .beq rs rt imm ∧ decode (mkI 0x05#6 rs rt imm) = .bne rs rt imm ∧
    decode (mkI 0x06#6 rs rt imm) = .blez rs imm ∧ decode (mkI 0x07#6 rs rt imm) = .bgtz rs imm ∧
    decode (mkI 0x08#6 rs rt imm) = .addi rt rs imm ∧ decode (mkI 0x09#6 rs rt imm) = .addiu rt rs imm ∧
    decode (mkI 0x0A#6 rs rt imm) = .slti rt rs imm ∧ decode (mkI 0x0B#6 rs rt imm) = .sltiu rt rs imm ∧
    decode (mkI 0x0C#6 rs rt imm) = .andi rt rs imm ∧ decode (mkI 0x0D#6 rs rt imm) = .ori rt rs imm ∧
    decode (mkI 0x0E#6 rs rt imm) = .xori rt rs imm ∧ decode (mkI 0x0F#6 rs rt imm) = .lui rt imm ∧
    decode (mkJ 0x12#6 t) = .cop2 t ∧
    decode (mkI 0x20#6 rs rt imm) = .lb rt rs imm ∧ decode (mkI 0x21#6 rs rt imm) = .lh rt rs imm ∧
    decode (mkI 0x22#6 rs rt imm) = .lwl rt rs imm ∧ decode (mkI 0x23#6 rs rt imm) = .lw rt rs imm ∧
    decode (mkI 0x24#6 rs rt imm) = .lbu rt rs imm ∧ decode (mkI 0x25#6 rs rt imm) = .lhu rt rs imm ∧
    decode (mkI 0x26#6 rs rt imm) = .lwr rt rs imm ∧ decode (mkI 0x28#6 rs rt imm) = .sb rt rs imm ∧
    decode (mkI 0x29#6 rs rt imm) = .sh rt rs imm ∧ decode (mkI 0x2A#6 rs rt imm) = .swl rt rs imm ∧
    decode (mkI 0x2B#6 rs rt imm) = .sw rt rs imm ∧ decode (mkI 0x2E#6 rs rt imm) = .swr rt rs imm ∧
    decode (mkI 0x32#6 rs rt imm) = .lwc2 rt rs imm ∧ decode (mkI 0x3A#6 rs rt imm) = .swc2 rt rs imm

/-- Words of the R format decode by the SPECIAL map (R184, R191, R197). For every value of every field, used or ignored, a
word with op = 0 and a funct of R191 that is not RI decodes to that function's instruction with its operands from
their fields. -/
def Obligations.SpecialWordsDecode : Prop :=
  ∀ (rs rt rd : Reg) (sh : BitVec 5) (code : BitVec 20),
    decode (mkR 0#6 rs rt rd sh 0x00#6) = .sll rd rt sh ∧ decode (mkR 0#6 rs rt rd sh 0x02#6) = .srl rd rt sh ∧
    decode (mkR 0#6 rs rt rd sh 0x03#6) = .sra rd rt sh ∧ decode (mkR 0#6 rs rt rd sh 0x04#6) = .sllv rd rt rs ∧
    decode (mkR 0#6 rs rt rd sh 0x06#6) = .srlv rd rt rs ∧ decode (mkR 0#6 rs rt rd sh 0x07#6) = .srav rd rt rs ∧
    decode (mkR 0#6 rs rt rd sh 0x08#6) = .jr rs ∧ decode (mkR 0#6 rs rt rd sh 0x09#6) = .jalr rd rs ∧
    decode (mkCode code 0x0C#6) = .syscall code ∧ decode (mkCode code 0x0D#6) = .brk code ∧
    decode (mkR 0#6 rs rt rd sh 0x10#6) = .mfhi rd ∧ decode (mkR 0#6 rs rt rd sh 0x11#6) = .mthi rs ∧
    decode (mkR 0#6 rs rt rd sh 0x12#6) = .mflo rd ∧ decode (mkR 0#6 rs rt rd sh 0x13#6) = .mtlo rs ∧
    decode (mkR 0#6 rs rt rd sh 0x18#6) = .mult rs rt ∧ decode (mkR 0#6 rs rt rd sh 0x19#6) = .multu rs rt ∧
    decode (mkR 0#6 rs rt rd sh 0x1A#6) = .div rs rt ∧ decode (mkR 0#6 rs rt rd sh 0x1B#6) = .divu rs rt ∧
    decode (mkR 0#6 rs rt rd sh 0x20#6) = .add rd rs rt ∧ decode (mkR 0#6 rs rt rd sh 0x21#6) = .addu rd rs rt ∧
    decode (mkR 0#6 rs rt rd sh 0x22#6) = .sub rd rs rt ∧ decode (mkR 0#6 rs rt rd sh 0x23#6) = .subu rd rs rt ∧
    decode (mkR 0#6 rs rt rd sh 0x24#6) = .and rd rs rt ∧ decode (mkR 0#6 rs rt rd sh 0x25#6) = .or rd rs rt ∧
    decode (mkR 0#6 rs rt rd sh 0x26#6) = .xor rd rs rt ∧ decode (mkR 0#6 rs rt rd sh 0x27#6) = .nor rd rs rt ∧
    decode (mkR 0#6 rs rt rd sh 0x2A#6) = .slt rd rs rt ∧ decode (mkR 0#6 rs rt rd sh 0x2B#6) = .sltu rd rs rt

/-- A word is a reserved encoding exactly where the maps say RI (R190, R191, R193, R195, R196). A word decodes to a
reserved encoding exactly when its op is one of the RI cells of R190, or op = 0 and its funct is one of the RI cells
of R191, or op = 0x10 and it is neither MFC0, MTC0 nor RFE. -/
def Obligations.ReservedWordsAreExactlyTheMaps : Prop :=
  ∀ w : Word, (decode w).isReserved = true ↔
    (w.toNat / 2 ^ 26 ∈ [0x11, 0x13, 0x14, 0x15, 0x16, 0x17, 0x18, 0x19, 0x1A, 0x1B, 0x1C, 0x1D, 0x1E, 0x1F, 0x27, 0x2C, 0x2D,
        0x2F, 0x30, 0x31, 0x33, 0x34, 0x35, 0x36, 0x37, 0x38, 0x39, 0x3B, 0x3C, 0x3D, 0x3E, 0x3F] ∨
      (w.toNat / 2 ^ 26 = 0 ∧ w.toNat % 2 ^ 6 ∈ [0x01, 0x05, 0x0A, 0x0B, 0x0E, 0x0F, 0x14, 0x15, 0x16, 0x17, 0x1C, 0x1D, 0x1E,
        0x1F, 0x28, 0x29, 0x2C, 0x2D, 0x2E, 0x2F, 0x30, 0x31, 0x32, 0x33, 0x34, 0x35, 0x36, 0x37, 0x38, 0x39, 0x3A, 0x3B, 0x3C,
        0x3D, 0x3E, 0x3F]) ∨
      (w.toNat / 2 ^ 26 = 0x10 ∧
        ((w.getLsbD 25 = false ∧ w.toNat / 2 ^ 21 % 2 ^ 5 ≠ 0 ∧ w.toNat / 2 ^ 21 % 2 ^ 5 ≠ 4) ∨
          (w.getLsbD 25 = true ∧ w.toNat % 2 ^ 6 ≠ 0x10))))

/-- Decoding an encoded instruction gives it back, for every instruction (R180, R181, R190, R191, R192, R193, R199). For
every well-formed instruction i, with every operand at every value its field admits: decode of encode i is i, and the
byte decoder reads i from the four bytes of encode i and leaves the bytes that follow. That the encoder writes ignored
fields as 0 is the model's own (log 14). -/
def Obligations.DecodeInvertsEncode : Prop :=
  ∀ i : Instr, i.wf = true →
    decode (encode i) = i ∧ ∀ rest : List Byte, decodeBytes (bytesOfWord (encode i) ++ rest) = .ok (i, rest)

/-- Every word matches the row of its instruction, and no other row (R190, R191, R192, R193, R199). Every 32-bit word has
the selecting bits of the opcode-table row of the instruction it decodes to, and any instruction whose row's selecting
bits a word has is of that same row. So decode is total and unambiguous over the table. -/
def Obligations.EveryWordHasExactlyOneRow : Prop :=
  ∀ w : Word, w &&& (decode w).rowMask = (decode w).rowMatch ∧
    ∀ i : Instr, w &&& i.rowMask = i.rowMatch → i.rowMask = (decode w).rowMask ∧ i.rowMatch = (decode w).rowMatch

/-- What reset leaves (R11, R71, R110, R560, R561, R562). At reset every register, HI, LO, curpc, the four flags, SR,
Cause, EPC, BadVaddr, I_STAT, I_MASK, the DMA registers, cycles and seq are 0, pc is 0xBFC00000 and nextpc 0xBFC00004,
no load is pending, RAM and the scratchpad read 0, the queue holds the sentinel alone, next-wake is 2^64 - 1 and no
refusal is recorded; the parameters the spec gives a default have it (RAM_WINDOW 0x00800000, CAUSE_ENTRY_MODE
Overwrite, COP2_MODE Refuse, the five windows of EXTERNAL_RANGES). (The contents of ROM and the four OPEN cycle
parameters at reset are the model's choice, log 2 and 4, and no part of this statement.) -/
def Obligations.ResetState : Prop :=
  (∀ r : Reg, State.reset.readReg r = 0#32) ∧ State.reset.hi = 0#32 ∧ State.reset.lo = 0#32 ∧
    State.reset.pc = 0xBFC00000#32 ∧ State.reset.nextpc = 0xBFC00004#32 ∧ State.reset.curpc = 0#32 ∧
    State.reset.flagB = false ∧ State.reset.flagT = false ∧ State.reset.flagDS = false ∧ State.reset.flagDT = false ∧
    State.reset.pending = none ∧ State.reset.sr = 0#32 ∧ State.reset.cause = 0#32 ∧ State.reset.causeValue = 0#32 ∧
    State.reset.epc = 0#32 ∧ State.reset.badVaddr = 0#32 ∧
    (∀ a, a < 0x1FC00000 → Memory.read State.reset.mem a = 0#8) ∧
    State.reset.iStat = 0#16 ∧ State.reset.iMask = 0#16 ∧
    (∀ n : Fin 7, State.reset.chans[n] = ⟨0#32, 0#32, 0#32⟩) ∧ State.reset.dpcr = 0#32 ∧ State.reset.dicr = 0#32 ∧
    State.reset.cycles = 0 ∧ State.reset.queue = [⟨2 ^ 64 - 1, 0, .sentinel⟩] ∧ State.reset.nextWake = 2 ^ 64 - 1 ∧
    State.reset.seq = 0 ∧ State.reset.refusalMark = false ∧ State.reset.cfg.ramWindow = 0x00800000 ∧
    State.reset.cfg.causeEntryMode = .overwrite ∧ State.reset.cfg.cop2Mode = .refuse ∧
    State.reset.cfg.externalRanges = [⟨"pad", 0x1F801040, 0x20⟩, ⟨"timers", 0x1F801100, 0x30⟩, ⟨"cdrom", 0x1F801800, 4⟩,
      ⟨"gpu", 0x1F801810, 8⟩, ⟨"spu", 0x1F801C00, 0x280⟩]

/-- The invariant holds at reset (R71, R481, R485, R53, R507). State.Inv holds of State.reset. (The configuration is part
of the state, and what makes one well formed is the model's reading, log 3 and 5; its four OPEN cycle parameters at
reset are the model's choice, log 4.) -/
def Obligations.ResetMeetsInvariant : Prop :=
  State.reset.Inv

/-- Every step keeps the invariant (R41, R53, R54, R481, R482, R485, R507, R511). From every state that has it, a step
that answers a next state keeps State.Inv: the configuration well formed, memory in canonical form (the model's own
representation, log 15), register 0 zero, the zero bits of Cause and DICR zero, DICR bit 31 the master flag, the
sentinel in the queue, every other entry below it and numbered in order, and next-wake the least target in the queue. -/
def Obligations.StepKeepsInvariant : Prop :=
  ∀ s t : State, s.Inv → step s = .next t → t.Inv

/-- No step changes the boot ROM, the configuration or the refusal mark (R66, R69, R70, R108, R562). From every state, a
step that answers a next state leaves every byte at and above the ROM base as it was, the configuration as it was and
the refusal mark as it was, also when it runs DMA or events. (That the model answers a refusal as an outcome instead
of setting the mark is its own, log 1.) -/
def Obligations.StepKeepsRomAndConfiguration : Prop :=
  ∀ s t : State, step s = .next t →
    (∀ a, 0x1FC00000 ≤ a → Memory.read t.mem a = Memory.read s.mem a) ∧ t.cfg = s.cfg ∧ t.refusalMark = s.refusalMark

/-- The cycle counter never decreases; only CPU steps raise it (R81, R480, R486, R515). From every state, a step that
answers a next state does not lower the cycle counter; a CPU step raises it by at least CYCLES_PER_INSTR, and the
firing of an event leaves it as it is. (That a step is one CPU step or one firing is the model's form, log 8; the
counter is an exact number, log 9.) -/
def Obligations.CyclesNeverDecrease : Prop :=
  ∀ s t : State, step s = .next t →
    s.cycles ≤ t.cycles ∧
    (s.cycles < s.nextWake → s.cycles + s.cfg.cyclesPerInstr ≤ t.cycles) ∧
    ((∃ e, s.nextWake ≤ s.cycles ∧ s.dueEvent = some e) → t.cycles = s.cycles)

/-- The commit, and register 0: reads yield zero and writes and loads to it change nothing (R41). The commit of a step
with a write W and a load L: the target of W has W's value; otherwise the target of the pending load has its value
unless L has the same target; every other register is as before; register 0 is zero; L becomes the pending load;
nothing else changes. In every state a read of register 0 yields zero, and a write or a pending load whose target is 0
is performed as no change. -/
def Obligations.CommitOrder : Prop :=
  ∀ (s : State) (w l : Option RegWrite), EndsWith s (s.commit w l) w l ∧ s.readReg 0#5 = 0#32 ∧
    (∀ v, s.commit (some ⟨0#5, v⟩) l = s.commit none l) ∧
    ∀ v, State.commit { s with pending := some ⟨0#5, v⟩ } w l = State.commit { s with pending := none } w l

/-- Effective addresses, targets, shift amounts and the value in flight, by number (R187, R188, R311, R350, R357). The
effective address is the base register plus the signed offset, modulo 2^32; a branch target is curpc + 4 plus 4 times
the signed offset, modulo 2^32; a jump target is the 256 MiB region of curpc + 4 with 4 times the index; the variable
shift amount is the register modulo 32; the value LWL and LWR see of a register is the pending load's if one is
pending for it, else the register's. -/
def Obligations.OperandForms : Prop :=
  ∀ (s : State) (rs : Reg) (imm : Half) (t : BitVec 26),
    ((s.ea rs imm).toNat : Int) = ((s.readReg rs).toNat + imm.toInt) % 2 ^ 32 ∧
    ((s.branchTarget imm).toNat : Int) = ((s.curpc.toNat : Int) + 4 + 4 * imm.toInt) % 2 ^ 32 ∧
    (s.jumpTarget t).toNat = (s.curpc.toNat + 4) % 2 ^ 32 / 2 ^ 28 * 2 ^ 28 + 4 * t.toNat ∧
    s.shiftAmount rs = (s.readReg rs).toNat % 2 ^ 5 ∧
    (∀ p, s.pending = some p → p.reg = rs → s.pend rs = p.val) ∧
    ((∀ p, s.pending = some p → p.reg ≠ rs) → s.pend rs = s.readReg rs)

/-- ADD, SUB and ADDI write the exact signed result or raise Overflow (R230, R232, R234, R254, R431, R436). ADD, SUB and
ADDI each answer a next state: when the signed result fits in 32 bits it is written to the destination and nothing
else changes but for the commit; otherwise Overflow is entered with the destination not written. -/
def Obligations.TrappingArithmetic : Prop :=
  ∀ (s : State) (d a b : Reg) (imm : Half),
    let x := (s.readReg a).toInt
    let y := (s.readReg b).toInt
    (-(2 ^ 31) ≤ x + y ∧ x + y < 2 ^ 31 → ∃ t v, exec (.add d a b) s = .next t ∧ EndsWith s t (some ⟨d, v⟩) none ∧ v.toInt = x + y) ∧
    (¬ (-(2 ^ 31) ≤ x + y ∧ x + y < 2 ^ 31) → ∃ t, exec (.add d a b) s = .next t ∧ Raises s t .ov 0#32) ∧
    (-(2 ^ 31) ≤ x - y ∧ x - y < 2 ^ 31 → ∃ t v, exec (.sub d a b) s = .next t ∧ EndsWith s t (some ⟨d, v⟩) none ∧ v.toInt = x - y) ∧
    (¬ (-(2 ^ 31) ≤ x - y ∧ x - y < 2 ^ 31) → ∃ t, exec (.sub d a b) s = .next t ∧ Raises s t .ov 0#32) ∧
    (-(2 ^ 31) ≤ x + imm.toInt ∧ x + imm.toInt < 2 ^ 31 →
      ∃ t v, exec (.addi d a imm) s = .next t ∧ EndsWith s t (some ⟨d, v⟩) none ∧ v.toInt = x + imm.toInt) ∧
    (¬ (-(2 ^ 31) ≤ x + imm.toInt ∧ x + imm.toInt < 2 ^ 31) → ∃ t, exec (.addi d a imm) s = .next t ∧ Raises s t .ov 0#32)

/-- ADDU, SUBU and ADDIU write the result modulo 2^32 (R231, R233, R235, R254). ADDU, SUBU and ADDIU answer a next state
in every state: the destination gets the sum, the difference, or the sum with the sign-extended immediate, modulo
2^32; nothing else changes but for the commit. -/
def Obligations.WrappingArithmetic : Prop :=
  ∀ (s : State) (d a b : Reg) (imm : Half),
    (∃ t v, exec (.addu d a b) s = .next t ∧ EndsWith s t (some ⟨d, v⟩) none ∧
      v.toNat = ((s.readReg a).toNat + (s.readReg b).toNat) % 2 ^ 32) ∧
    (∃ t v, exec (.subu d a b) s = .next t ∧ EndsWith s t (some ⟨d, v⟩) none ∧
      (v.toNat : Int) = ((s.readReg a).toNat - (s.readReg b).toNat : Int) % 2 ^ 32) ∧
    (∃ t v, exec (.addiu d a imm) s = .next t ∧ EndsWith s t (some ⟨d, v⟩) none ∧
      (v.toNat : Int) = ((s.readReg a).toNat + imm.toInt) % 2 ^ 32)

/-- SLT, SLTU, SLTI and SLTIU write 1 or 0 (R236, R237, R238, R239). SLT, SLTU, SLTI and SLTIU answer a next state in
every state: the destination gets 1 when the comparison holds and 0 otherwise; SLT and SLTI compare signed, SLTU and
SLTIU unsigned, and SLTIU extends the sign of its immediate first; nothing else changes but for the commit. -/
def Obligations.Comparisons : Prop :=
  ∀ (s : State) (d a b : Reg) (imm : Half),
    (∃ t v, exec (.slt d a b) s = .next t ∧ EndsWith s t (some ⟨d, v⟩) none ∧
      v.toNat = if (s.readReg a).toInt < (s.readReg b).toInt then 1 else 0) ∧
    (∃ t v, exec (.sltu d a b) s = .next t ∧ EndsWith s t (some ⟨d, v⟩) none ∧
      v.toNat = if (s.readReg a).toNat < (s.readReg b).toNat then 1 else 0) ∧
    (∃ t v, exec (.slti d a imm) s = .next t ∧ EndsWith s t (some ⟨d, v⟩) none ∧
      v.toNat = if (s.readReg a).toInt < imm.toInt then 1 else 0) ∧
    (∃ t v, exec (.sltiu d a imm) s = .next t ∧ EndsWith s t (some ⟨d, v⟩) none ∧
      v.toNat = if ((s.readReg a).toNat : Int) < imm.toInt % 2 ^ 32 then 1 else 0)

/-- The logic instructions, bit by bit, and LUI (R240, R241, R242, R243, R244, R245, R246, R247). AND, OR, XOR, NOR, ANDI,
ORI, XORI and LUI answer a next state in every state: each bit of the destination is the operation of the operands'
bits, the immediate's bits above 15 being 0; LUI gives the immediate times 65536; nothing else changes but for the
commit. -/
def Obligations.LogicBitByBit : Prop :=
  ∀ (s : State) (d a b : Reg) (imm : Half),
    let x := s.readReg a
    let y := s.readReg b
    (∃ t v, exec (.and d a b) s = .next t ∧ EndsWith s t (some ⟨d, v⟩) none ∧
      ∀ k, k < 32 → v.getLsbD k = (x.getLsbD k && y.getLsbD k)) ∧
    (∃ t v, exec (.or d a b) s = .next t ∧ EndsWith s t (some ⟨d, v⟩) none ∧
      ∀ k, k < 32 → v.getLsbD k = (x.getLsbD k || y.getLsbD k)) ∧
    (∃ t v, exec (.xor d a b) s = .next t ∧ EndsWith s t (some ⟨d, v⟩) none ∧
      ∀ k, k < 32 → v.getLsbD k = (x.getLsbD k != y.getLsbD k)) ∧
    (∃ t v, exec (.nor d a b) s = .next t ∧ EndsWith s t (some ⟨d, v⟩) none ∧
      ∀ k, k < 32 → v.getLsbD k = !(x.getLsbD k || y.getLsbD k)) ∧
    (∃ t v, exec (.andi d a imm) s = .next t ∧ EndsWith s t (some ⟨d, v⟩) none ∧
      ∀ k, k < 32 → v.getLsbD k = (x.getLsbD k && decide (k < 16) && imm.getLsbD k)) ∧
    (∃ t v, exec (.ori d a imm) s = .next t ∧ EndsWith s t (some ⟨d, v⟩) none ∧
      ∀ k, k < 32 → v.getLsbD k = (x.getLsbD k || (decide (k < 16) && imm.getLsbD k))) ∧
    (∃ t v, exec (.xori d a imm) s = .next t ∧ EndsWith s t (some ⟨d, v⟩) none ∧
      ∀ k, k < 32 → v.getLsbD k = (x.getLsbD k != (decide (k < 16) && imm.getLsbD k))) ∧
    (∃ t v, exec (.lui d imm) s = .next t ∧ EndsWith s t (some ⟨d, v⟩) none ∧ v.toNat = imm.toNat * 65536)

/-- The shifts multiply and divide by a power of two (R188, R248, R249, R250, R251, R252, R253). SLL, SRL, SRA and their
variable forms answer a next state in every state: the destination gets the operand times 2^n modulo 2^32, divided by
2^n, or its signed value divided by 2^n toward minus infinity, n being the constant or the register's low five bits;
nothing else changes but for the commit. -/
def Obligations.ShiftsByNumber : Prop :=
  ∀ (s : State) (d b a : Reg) (sh : BitVec 5),
    let y := s.readReg b
    let n := (s.readReg a).toNat % 32
    (∃ t v, exec (.sll d b sh) s = .next t ∧ EndsWith s t (some ⟨d, v⟩) none ∧ v.toNat = y.toNat * 2 ^ sh.toNat % 2 ^ 32) ∧
    (∃ t v, exec (.srl d b sh) s = .next t ∧ EndsWith s t (some ⟨d, v⟩) none ∧ v.toNat = y.toNat / 2 ^ sh.toNat) ∧
    (∃ t v, exec (.sra d b sh) s = .next t ∧ EndsWith s t (some ⟨d, v⟩) none ∧ v.toInt = y.toInt / 2 ^ sh.toNat) ∧
    (∃ t v, exec (.sllv d b a) s = .next t ∧ EndsWith s t (some ⟨d, v⟩) none ∧ v.toNat = y.toNat * 2 ^ n % 2 ^ 32) ∧
    (∃ t v, exec (.srlv d b a) s = .next t ∧ EndsWith s t (some ⟨d, v⟩) none ∧ v.toNat = y.toNat / 2 ^ n) ∧
    (∃ t v, exec (.srav d b a) s = .next t ∧ EndsWith s t (some ⟨d, v⟩) none ∧ v.toInt = y.toInt / 2 ^ n)

/-- MULT and MULTU leave the exact 64-bit product in HI and LO (R44, R290, R291, R298). MULT and MULTU answer a next state
in every state: HI and LO hold the two halves of the exact signed, or unsigned, product; no register is written and
nothing else changes but for the commit. -/
def Obligations.Products : Prop :=
  ∀ (s : State) (a b : Reg),
    (∃ t h l, exec (.mult a b) s = .next t ∧ EndsWith { s with hi := h, lo := l } t none none ∧
      h.toInt * 2 ^ 32 + l.toNat = (s.readReg a).toInt * (s.readReg b).toInt) ∧
    (∃ t h l, exec (.multu a b) s = .next t ∧ EndsWith { s with hi := h, lo := l } t none none ∧
      h.toNat * 2 ^ 32 + l.toNat = (s.readReg a).toNat * (s.readReg b).toNat)

/-- MFHI, MFLO, MTHI and MTLO (R294, R295, R296, R297). In every state: MFHI and MFLO write HI, or LO, to their register
by an ordinary write; MTHI and MTLO write the committed register to HI, or LO, and leave the other; nothing else
changes but for the commit. -/
def Obligations.HiLoTransfers : Prop :=
  ∀ (s : State) (r : Reg),
    (∃ t, exec (.mfhi r) s = .next t ∧ EndsWith s t (some ⟨r, s.hi⟩) none) ∧
    (∃ t, exec (.mflo r) s = .next t ∧ EndsWith s t (some ⟨r, s.lo⟩) none) ∧
    (∃ t, exec (.mthi r) s = .next t ∧ EndsWith { s with hi := s.readReg r } t none none) ∧
    (∃ t, exec (.mtlo r) s = .next t ∧ EndsWith { s with lo := s.readReg r } t none none)

/-- J, JR, JAL and JALR: the delayed transfer and the link (R310, R311, R312, R313, R314, R315, R316). In every state each
jump answers a next state with flagB and flagT set and nextpc at its target (read before the link is written, aligned
or not), while pc stays at the delay slot; JAL links into r31 and JALR into rd with curpc + 8; nothing else changes
but for the commit. -/
def Obligations.Jumps : Prop :=
  ∀ (s : State) (tg : BitVec 26) (d r : Reg),
    (∃ t x, exec (.j tg) s = .next t ∧ x.toNat = (s.curpc.toNat + 4) % 2 ^ 32 / 2 ^ 28 * 2 ^ 28 + 4 * tg.toNat ∧
      EndsWith { s with flagB := true, flagT := true, nextpc := x } t none none) ∧
    (∃ t x, exec (.jal tg) s = .next t ∧ x.toNat = (s.curpc.toNat + 4) % 2 ^ 32 / 2 ^ 28 * 2 ^ 28 + 4 * tg.toNat ∧
      EndsWith { s with flagB := true, flagT := true, nextpc := x } t (some ⟨31#5, s.curpc + 8#32⟩) none) ∧
    (∃ t, exec (.jr r) s = .next t ∧
      EndsWith { s with flagB := true, flagT := true, nextpc := s.readReg r } t none none) ∧
    (∃ t, exec (.jalr d r) s = .next t ∧
      EndsWith { s with flagB := true, flagT := true, nextpc := s.readReg r } t (some ⟨d, s.curpc + 8#32⟩) none)

/-- BEQ, BNE, BLEZ and BGTZ branch by their conditions (R310, R311, R317, R318, R319, R320, R326). In every state each of
the four answers a next state: flagB is set; taken exactly when the registers are equal, differ, or the signed
register is at most 0, or above 0; if taken flagT is set and nextpc is the target, else both stand; nothing else
changes but for the commit. -/
def Obligations.CompareBranches : Prop :=
  ∀ (s : State) (a b : Reg) (imm : Half),
    BranchesTo (.beq a b imm) s (s.readReg a = s.readReg b) imm none ∧
    BranchesTo (.bne a b imm) s (s.readReg a ≠ s.readReg b) imm none ∧
    BranchesTo (.blez a imm) s ((s.readReg a).toInt ≤ 0) imm none ∧
    BranchesTo (.bgtz a imm) s (0 < (s.readReg a).toInt) imm none

/-- Every REGIMM branch: its condition by rt[0], its link by rt[4:1] (R192, R310, R312, R321, R322, R323, R324). For every
one of the 32 REGIMM instructions (BLTZ, BGEZ, BLTZAL, BGEZAL and the 28 aliases) and every state, it answers a next
state: the branch is taken when the signed register is at least 0 if bit 0 of its code is 1, below 0 if it is 0; r31
is linked, taken or not, exactly when bits 4:1 of the code are 1000; nothing else changes but for the commit. -/
def Obligations.RegimmBranches : Prop :=
  ∀ (i : Instr) (s : State) (c : BitVec 5) (rs : Reg) (imm : Half), i.regimm = some (c, rs, imm) →
    BranchesTo i s (if c.getLsbD 0 = true then 0 ≤ (s.readReg rs).toInt else (s.readReg rs).toInt < 0) imm
      (if c.toNat / 2 = 8 then some 31#5 else none)

/-- Every REGIMM word decodes by its rt field; MFC0, MTC0 and RFE decode whatever their ignored bits (R185, R186, R192,
R193, R197). For every word with op = 1, whatever its rt field, decode gives a REGIMM branch whose condition code is
that field, with the register and the offset of the word. For every value of the ignored bits a COP0 word with sub-
opcode 0 is MFC0 and with sub-opcode 4 MTC0, with rt and rd from their fields; with bit 25 set and funct 0x10 it is
RFE. -/
def Obligations.RegimmAndCop0WordsDecode : Prop :=
  ∀ (rs rt rd : Reg) (c sh : BitVec 5) (fn : BitVec 6) (imm : Half),
    (decode (mkI 1#6 rs c imm)).regimm = some (c, rs, imm) ∧
    decode (mkR 0x10#6 0x00#5 rt rd sh fn) = .mfc0 rt rd ∧ decode (mkR 0x10#6 0x04#5 rt rd sh fn) = .mtc0 rt rd ∧
    (rs.getLsbD 4 = true → decode (mkR 0x10#6 rs rt rd sh 0x10#6) = .rfe)

/-- DIV and DIVU in every case (R44, R292, R293, R298). DIV and DIVU answer a next state in every state and write HI and
LO alone. DIV by zero leaves the dividend in HI and all ones or 1 in LO by the dividend's sign; the most negative
number by -1 leaves itself in LO and 0 in HI; otherwise dividend = divisor * LO + HI, HI is smaller in magnitude than
the divisor, and is 0 or has the dividend's sign. DIVU by zero leaves all ones in LO and the dividend in HI; otherwise
dividend = divisor * LO + HI with HI below the divisor. -/
def Obligations.Divisions : Prop :=
  ∀ (s : State) (a b : Reg),
    let n := s.readReg a
    let d := s.readReg b
    (∃ t h l, exec (.div a b) s = .next t ∧ EndsWith { s with hi := h, lo := l } t none none ∧
      (d = 0#32 → h = n ∧ l = if 0 ≤ n.toInt then 0xFFFFFFFF#32 else 0x00000001#32) ∧
      (n = 0x80000000#32 ∧ d = 0xFFFFFFFF#32 → h = 0#32 ∧ l = 0x80000000#32) ∧
      (d ≠ 0#32 → ¬ (n = 0x80000000#32 ∧ d = 0xFFFFFFFF#32) →
        n.toInt = d.toInt * l.toInt + h.toInt ∧ h.toInt.natAbs < d.toInt.natAbs ∧
          (h = 0#32 ∨ (h.toInt < 0 ↔ n.toInt < 0)))) ∧
    (∃ t h l, exec (.divu a b) s = .next t ∧ EndsWith { s with hi := h, lo := l } t none none ∧
      (d = 0#32 → l = 0xFFFFFFFF#32 ∧ h = n) ∧
      (d ≠ 0#32 → n.toNat = d.toNat * l.toNat + h.toNat ∧ h.toNat < d.toNat))

/-- LB, LBU, LH, LHU and LW load the answer of the Bus as a delayed load (R101, R113, R116, R117, R125, R352, R354, R355,
R356, R358, R359, R502). Under a well-formed configuration each of the five loads, at an aligned address whose read
has an answer (isolated: 0; RAM, ROM, scratchpad: the little-endian bytes; I_STAT and I_MASK; a DMA register;
unmapped: 0), answers a next state: the access is charged, and the value, sign- or zero-extended, becomes the pending
load of rt; nothing else changes but for the commit. -/
def Obligations.LoadsAnswer : Prop :=
  ∀ (s : State) (i : Instr) (f : AccessForm) (v : Nat), s.cfg.wf = true → i.plainLoad = some f →
    alignedTo f.width (s.ea f.rs f.imm) → Answers s (s.ea f.rs f.imm) f.width v →
    ∃ t, exec i s = .next t ∧
      EndsWith { s with cycles := s.cycles + accessCycles s (s.ea f.rs f.imm) } t none (some ⟨f.rt, f.extend v⟩)

/-- A misaligned load raises AdEL and a misaligned store AdES (R80, R130, R351, R356, R358, R359, R365, R366, R439). In
every state, isolated or not: LH, LHU and LW at an address that is not a multiple of their width enter AdEL, SH and SW
enter AdES, with BadVaddr the address; no access is made, no cycles are charged for one, no register is written but by
the pending load, and memory stands. -/
def Obligations.MisalignedAccessesRaise : Prop :=
  ∀ (s : State) (i : Instr) (f : AccessForm), ¬ alignedTo f.width (s.ea f.rs f.imm) →
    (i.plainLoad = some f → ∃ t, exec i s = .next t ∧ Raises s t .adEL (s.ea f.rs f.imm)) ∧
    (i.plainStore = some f → ∃ t, exec i s = .next t ∧ Raises s t .adES (s.ea f.rs f.imm))

/-- LWL and LWR merge bytes with the register value in flight (R357, R360, R361, R362, R369). Under a well-formed
configuration LWL and LWR, at any address whose aligned word has an answer, answer a next state: one word access is
charged, and the pending load of rt is, byte by byte, the word's bytes from the address down to the word's start at
the top (LWL), or up to its end at the bottom (LWR), and elsewhere the bytes of rt as the pending load leaves it;
nothing else changes but for the commit. -/
def Obligations.PartialLoadsMerge : Prop :=
  ∀ (s : State) (rt rs : Reg) (imm : Half) (v : Nat), s.cfg.wf = true →
    let a := s.ea rs imm
    let w := BitVec.ofNat 32 (a.toNat / 4 * 4)
    Answers s w .word v →
    (∃ t x, exec (.lwl rt rs imm) s = .next t ∧
      EndsWith { s with cycles := s.cycles + accessCycles s w } t none (some ⟨rt, x⟩) ∧
      ∀ j, j < 4 → x.toNat / 256 ^ j % 256 = lwlByte a (s.pend rt) v j) ∧
    (∃ t x, exec (.lwr rt rs imm) s = .next t ∧
      EndsWith { s with cycles := s.cycles + accessCycles s w } t none (some ⟨rt, x⟩) ∧
      ∀ j, j < 4 → x.toNat / 256 ^ j % 256 = lwrByte a (s.pend rt) v j)

/-- Loads from an external range: recorded, a free value, the collaborator's turn (R110, R113, R118, R352, R361, R362,
R580). Under a well-formed configuration, not isolated, a load (LWL and LWR at the aligned word) from an external
range whose collaborator calls nothing the spec refuses answers a next state: the access is charged, the read is
recorded with the range's name, the offset and the width, the value is the next free value cut to the width, the
collaborator takes its turn, and the value becomes the pending load of rt. (The free value and the script of turns are
the model's form of R18 and R580, log 6, 7 and 11.) -/
def Obligations.ExternalLoads : Prop :=
  ∀ (s : State) (r : ExtRange), s.cfg.wf = true → ¬ isolated s → r ∈ s.cfg.externalRanges →
    (∀ (i : Instr) (f : AccessForm), i.plainLoad = some f → alignedTo f.width (s.ea f.rs f.imm) →
      inRange (s.ea f.rs f.imm) r →
      let u := { s with
        cycles := s.cycles + s.cfg.dataAccessCycles, draws := s.draws + 1,
        extLog := .read r.name (virtPhys (s.ea f.rs f.imm) - r.base) f.width :: s.extLog }
      u.turnAllowed →
      ∃ t m, exec i s = .next t ∧ TookTurn u m ∧
        EndsWith m t none (some ⟨f.rt, f.extend ((Config.drawWord s.draws).toNat % 2 ^ (8 * f.width.bytes))⟩)) ∧
    (∀ (rt rs : Reg) (imm : Half),
      let a := s.ea rs imm
      let w := BitVec.ofNat 32 (a.toNat / 4 * 4)
      let u := { s with
        cycles := s.cycles + s.cfg.dataAccessCycles, draws := s.draws + 1,
        extLog := .read r.name (virtPhys w - r.base) .word :: s.extLog }
      inRange w r → u.turnAllowed →
      (∃ t m x, exec (.lwl rt rs imm) s = .next t ∧ TookTurn u m ∧ EndsWith m t none (some ⟨rt, x⟩) ∧
        ∀ j, j < 4 → x.toNat / 256 ^ j % 256 = lwlByte a (s.pend rt) (Config.drawWord s.draws).toNat j) ∧
      (∃ t m x, exec (.lwr rt rs imm) s = .next t ∧ TookTurn u m ∧ EndsWith m t none (some ⟨rt, x⟩) ∧
        ∀ j, j < 4 → x.toNat / 256 ^ j % 256 = lwrByte a (s.pend rt) (Config.drawWord s.draws).toNat j))

/-- SB, SH and SW write exactly the bytes of their width (R101, R104, R105, R114, R353, R363, R365, R366). Under a well-
formed configuration and with memory in canonical form, not isolated, SB, SH and SW at an aligned address in RAM or
the scratchpad (outside KSEG1) answer a next state: the bytes from the cell of the effective address hold the low
bytes of the committed rt, the least significant first; every other byte of memory reads as before; the access is
charged; nothing else changes but for the commit. -/
def Obligations.StoresToMemory : Prop :=
  ∀ (s : State) (i : Instr) (f : AccessForm), s.cfg.wf = true → Memory.wf s.mem = true → i.plainStore = some f →
    alignedTo f.width (s.ea f.rs f.imm) → ¬ isolated s → inStore s (s.ea f.rs f.imm) →
    ∃ t m, exec i s = .next t ∧
      EndsWith { s with cycles := s.cycles + s.cfg.dataAccessCycles, mem := m } t none none ∧
      (∀ j, j < f.width.bytes →
        (Memory.read m (cellOf s (s.ea f.rs f.imm) + j)).toNat = (s.readReg f.rt).toNat / 256 ^ j % 256) ∧
      (∀ b, b < cellOf s (s.ea f.rs f.imm) ∨ cellOf s (s.ea f.rs f.imm) + f.width.bytes ≤ b →
        Memory.read m b = Memory.read s.mem b)

/-- Stores that are dropped change nothing but the cycles (R108, R109, R114, R116, R117, R364). Under a well-formed
configuration an aligned SB, SH or SW that is isolated, reaches ROM or reaches nothing, and an isolated SWL or SWR,
answer a next state: the access is charged (ROM at its own cost) and nothing else changes but for the commit; every
byte of memory stands. -/
def Obligations.DroppedStores : Prop :=
  ∀ s : State, s.cfg.wf = true →
    (∀ (i : Instr) (f : AccessForm), i.plainStore = some f → alignedTo f.width (s.ea f.rs f.imm) →
      isolated s ∨ inRom (s.ea f.rs f.imm) ∨ inNothing s (s.ea f.rs f.imm) →
      ∃ t, exec i s = .next t ∧ EndsWith { s with cycles := s.cycles + accessCycles s (s.ea f.rs f.imm) } t none none) ∧
    (∀ (rt rs : Reg) (imm : Half), isolated s →
      (∃ t, exec (.swl rt rs imm) s = .next t ∧ EndsWith { s with cycles := s.cycles + s.cfg.dataAccessCycles } t none none) ∧
      (∃ t, exec (.swr rt rs imm) s = .next t ∧ EndsWith { s with cycles := s.cycles + s.cfg.dataAccessCycles } t none none))

/-- SWL and SWR write part of one aligned word (R353, R364, R367, R368). Under a well-formed configuration and with memory
in canonical form, not isolated, SWL and SWR at any address whose aligned word lies in RAM or the scratchpad (outside
KSEG1) answer a next state: SWL writes the top bytes of the committed rt from the address down to the word's start,
SWR its low bytes from the address up to the word's end; every other byte of memory reads as before; one access is
charged; nothing else changes but for the commit. -/
def Obligations.PartialStoresMerge : Prop :=
  ∀ (s : State) (rt rs : Reg) (imm : Half), s.cfg.wf = true → Memory.wf s.mem = true → ¬ isolated s →
    let a := s.ea rs imm
    let k := a.toNat % 4
    let c := cellOf s (BitVec.ofNat 32 (a.toNat / 4 * 4))
    inStore s (BitVec.ofNat 32 (a.toNat / 4 * 4)) →
    (∃ t m, exec (.swl rt rs imm) s = .next t ∧
      EndsWith { s with cycles := s.cycles + s.cfg.dataAccessCycles, mem := m } t none none ∧
      (∀ j, j ≤ k → (Memory.read m (c + j)).toNat = (s.readReg rt).toNat / 256 ^ (3 - k + j) % 256) ∧
      (∀ b, b < c ∨ c + k < b → Memory.read m b = Memory.read s.mem b)) ∧
    (∃ t m, exec (.swr rt rs imm) s = .next t ∧
      EndsWith { s with cycles := s.cycles + s.cfg.dataAccessCycles, mem := m } t none none ∧
      (∀ j, k ≤ j → j < 4 → (Memory.read m (c + j)).toNat = (s.readReg rt).toNat / 256 ^ (j - k) % 256) ∧
      (∀ b, b < c + k ∨ c + 4 ≤ b → Memory.read m b = Memory.read s.mem b))

/-- Stores to an external range: recorded, then the collaborator's turn (R110, R114, R118, R580). Under a well-formed
configuration, not isolated, an aligned SB, SH or SW to an external range whose collaborator calls nothing the spec
refuses answers a next state: the access is charged, the write is recorded with the name, the offset, the width and
the low bytes of rt, the collaborator takes its turn, and nothing else changes but for the commit; every byte of
memory stands. (The script of turns is the model's form of R580, log 7, 10 and 11.) -/
def Obligations.ExternalStores : Prop :=
  ∀ (s : State) (i : Instr) (f : AccessForm) (r : ExtRange), s.cfg.wf = true → i.plainStore = some f →
    alignedTo f.width (s.ea f.rs f.imm) → ¬ isolated s → r ∈ s.cfg.externalRanges → inRange (s.ea f.rs f.imm) r →
    let u := { s with
      cycles := s.cycles + s.cfg.dataAccessCycles,
      extLog := .write r.name (virtPhys (s.ea f.rs f.imm) - r.base) f.width
        (BitVec.ofNat 32 ((s.readReg f.rt).toNat % 2 ^ (8 * f.width.bytes))) :: s.extLog }
    u.turnAllowed → ∃ t m, exec i s = .next t ∧ TookTurn u m ∧ EndsWith m t none none

/-- SH and SW to I_STAT acknowledge by AND, and to I_MASK replace it (R114, R120, R121, R125). Under a well-formed
configuration, not isolated, SH and SW at an aligned address of the interrupt controller answer a next state: at
I_STAT each bit stays set only where the written bit is 1; at I_MASK the low 16 bits of rt replace it; a halfword
store to the upper half of either is ignored; the access is charged; nothing else changes but for the commit. -/
def Obligations.InterruptRegisterStores : Prop :=
  ∀ (s : State) (i : Instr) (f : AccessForm), s.cfg.wf = true → i.plainStore = some f → f.width ≠ .byte →
    alignedTo f.width (s.ea f.rs f.imm) → ¬ isolated s →
    let p := virtPhys (s.ea f.rs f.imm)
    let u := { s with cycles := s.cycles + s.cfg.dataAccessCycles }
    (p = 0x1F801070 → ∃ t x, exec i s = .next t ∧ EndsWith { u with iStat := x } t none none ∧
      ∀ k, k < 16 → x.getLsbD k = (s.iStat.getLsbD k && (s.readReg f.rt).getLsbD k)) ∧
    (p = 0x1F801074 → ∃ t x, exec i s = .next t ∧ EndsWith { u with iMask := x } t none none ∧
      x.toNat = (s.readReg f.rt).toNat % 2 ^ 16) ∧
    (p = 0x1F801072 ∨ p = 0x1F801076 → ∃ t, exec i s = .next t ∧ EndsWith u t none none)

/-- SW to the DMA registers, but for a start of a transfer (R114, R501, R502, R503, R504, R506, R508, R511). Under a well-
formed configuration, not isolated, SW to a DMA register answers a next state with the access charged: MADR, BCR and
DPCR take rt whole; the unused words ignore it; DICR takes bits 5:0 and 23:15, clears a pending bit where rt has a 1,
keeps 14:6 zero, recomputes bit 31 and queues interrupt 3 at its rise (the target below the sentinel); CHCR takes rt
whole, and where that leaves no channel active, nothing else happens. Nothing else changes but for the commit. -/
def Obligations.DmaRegisterStores : Prop :=
  ∀ (s : State) (rt rs : Reg) (imm : Half), s.cfg.wf = true → (s.ea rs imm).toNat % 4 = 0 → ¬ isolated s →
    inDma (s.ea rs imm) →
    let o := virtPhys (s.ea rs imm) - 0x1F801080
    let v := s.readReg rt
    let u := { s with cycles := s.cycles + s.cfg.dataAccessCycles }
    (∀ n : Fin 7, o = 16 * n.val → ∃ t, exec (.sw rt rs imm) s = .next t ∧
      EndsWith { u with chans := s.chans.set n.val { s.chans[n] with madr := v } } t none none) ∧
    (∀ n : Fin 7, o = 16 * n.val + 4 → ∃ t, exec (.sw rt rs imm) s = .next t ∧
      EndsWith { u with chans := s.chans.set n.val { s.chans[n] with bcr := v } } t none none) ∧
    (∀ n : Fin 7, o = 16 * n.val + 8 →
      let cs := s.chans.set n.val { s.chans[n] with chcr := v }
      (∀ k : Fin 7, ¬ cs[k].startsTransfer) → ∃ t, exec (.sw rt rs imm) s = .next t ∧
        EndsWith { u with chans := cs } t none none) ∧
    (o = 0x70 → ∃ t, exec (.sw rt rs imm) s = .next t ∧ EndsWith { u with dpcr := v } t none none) ∧
    (o = 0x74 → s.cycles + s.cfg.dataAccessCycles + s.cfg.dmaIrqDelay < 2 ^ 64 - 1 →
      ∃ t m, exec (.sw rt rs imm) s = .next t ∧ EndsWith m t none none ∧
        NewDicr u m (fun k => if k < 6 ∨ (15 ≤ k ∧ k < 24) then v.getLsbD k
          else if 24 ≤ k then s.dicr.getLsbD k && !v.getLsbD k else false)) ∧
    ((∃ n, n < 7 ∧ o = 16 * n + 12) ∨ o = 0x78 ∨ o = 0x7C → ∃ t, exec (.sw rt rs imm) s = .next t ∧ EndsWith u t none none)

/-- The accesses the spec refuses, each under its own name (R116, R119, R125, R364, R447, R502). Under a well-formed
configuration, not isolated, an aligned access is refused by name: any load or store of the scratchpad through KSEG1;
LB, LBU and SB of I_STAT or I_MASK; LB, LBU, LH, LHU, SB and SH of a DMA register; SWL and SWR whose aligned word lies
outside RAM and the scratchpad. -/
def Obligations.RefusedAccesses : Prop :=
  ∀ s : State, s.cfg.wf = true → ¬ isolated s →
    (∀ (i : Instr) (f : AccessForm), i.plainLoad = some f ∨ i.plainStore = some f → alignedTo f.width (s.ea f.rs f.imm) →
      (inScratch (s.ea f.rs f.imm) → inKseg1 (s.ea f.rs f.imm) → exec i s = .refused .scratchpadThroughKseg1) ∧
      (inIrq (s.ea f.rs f.imm) → f.width = .byte → exec i s = .refused .byteAccessToInterruptController) ∧
      (inDma (s.ea f.rs f.imm) → f.width ≠ .word → exec i s = .refused .narrowAccessToDma)) ∧
    (∀ (rt rs : Reg) (imm : Half),
      let w := BitVec.ofNat 32 ((s.ea rs imm).toNat / 4 * 4)
      (inScratch w → inKseg1 w →
        exec (.lwl rt rs imm) s = .refused .scratchpadThroughKseg1 ∧ exec (.lwr rt rs imm) s = .refused .scratchpadThroughKseg1 ∧
        exec (.swl rt rs imm) s = .refused .scratchpadThroughKseg1 ∧ exec (.swr rt rs imm) s = .refused .scratchpadThroughKseg1) ∧
      (¬ inRam s w → ¬ inScratch w →
        exec (.swl rt rs imm) s = .refused .partialStoreOutsideRamAndScratchpad ∧
        exec (.swr rt rs imm) s = .refused .partialStoreOutsideRamAndScratchpad))

/-- The segment masks, by address ranges (R103). The physical address is the address itself in KUSEG and KSEG2, less
0x80000000 in KSEG0 and less 0xA0000000 in KSEG1; so below 0x20000000 the three mirrors of p all reach p. -/
def Obligations.SegmentsMirror : Prop :=
  (∀ a : Word, phys a = virtPhys a) ∧
    ∀ p, p < 0x20000000 → phys (BitVec.ofNat 32 p) = p ∧ phys (BitVec.ofNat 32 (p + 0x80000000)) = p ∧
      phys (BitVec.ofNat 32 (p + 0xA0000000)) = p

/-- A write to RAM or the scratchpad is read back through every mirror (R145, R146). Under a well-formed configuration and
with memory in canonical form with SR.Isc = 0, an aligned data write to RAM or the scratchpad is made, and a read of
the same width through any address with the same physical address (that the spec does not refuse) answers the low
bytes of the value written; in particular the read through the same address, and through the three mirrors of a RAM
offset. -/
def Obligations.WriteThenReadThroughAnyMirror : Prop :=
  ∀ (s : State) (a b v : Word) (w : Width), s.cfg.wf = true → Memory.wf s.mem = true → ¬ isolated s → alignedTo w a → virtPhys a = virtPhys b →
    inStore s a → inStore s b →
    ∃ t u x, memWrite a w v s = .ok t ∧ memRead b w t = .ok (x, u) ∧ x.toNat = v.toNat % 2 ^ (8 * w.bytes)

/-- SYSCALL, BREAK and every reserved encoding enter their exception (R195, R196, R390, R391, R398, R399, R436, R440). In
every state SYSCALL enters Sys, BREAK enters Bp and each of the 145 reserved encodings enters RI, whatever their
ignored bits: a next state with SR, Cause, EPC, pc and nextpc as entry leaves them and BadVaddr, HI, LO and memory as
before; the pending load commits and none is pending after. -/
def Obligations.TrapsAlwaysEnter : Prop :=
  ∀ s : State,
    (∀ code, ∃ t, exec (.syscall code) s = .next t ∧ Raises s t .sys 0#32) ∧
    (∀ code, ∃ t, exec (.brk code) s = .next t ∧ Raises s t .bp 0#32) ∧
    (∀ i : Instr, i.isReserved = true → ∃ t, exec i s = .next t ∧ Raises s t .ri 0#32)

/-- MFC0 of every register number (R45, R54, R57, R58, R78, R392). In every state MFC0 answers a next state whose pending
load of rt is BadVaddr, SR, Cause with bit 10 live, EPC or 0x00000002 for the numbers 8, 12, 13, 14 and 15, with
nothing else changed but for the commit; for every other number it is the next free value (log 6), and one value has
been taken. -/
def Obligations.MoveFromCop0 : Prop :=
  ∀ (s : State) (rt rd : Reg), ∃ t, exec (.mfc0 rt rd) s = .next t ∧
    (rd = 8#5 → EndsWith s t none (some ⟨rt, s.badVaddr⟩)) ∧
    (rd = 12#5 → EndsWith s t none (some ⟨rt, s.sr⟩)) ∧
    (rd = 13#5 → ∃ x, EndsWith s t none (some ⟨rt, x⟩) ∧
      ∀ k, k < 32 → x.getLsbD k = (s.cause.getLsbD k || (k == 10 && s.irqPending))) ∧
    (rd = 14#5 → EndsWith s t none (some ⟨rt, s.epc⟩)) ∧
    (rd = 15#5 → EndsWith s t none (some ⟨rt, 0x00000002#32⟩)) ∧
    (rd ∉ [8#5, 12#5, 13#5, 14#5, 15#5] →
      EndsWith { s with draws := s.draws + 1 } t none (some ⟨rt, Config.drawWord s.draws⟩))

/-- COP2, LWC2 and SWC2: no effect under NoOp, refused under Refuse (R194, R397, R447). In every state a COP2, LWC2 or
SWC2 word answers, under COP2_MODE = NoOp, a next state in which nothing changes but for the commit (no access, no
cycles), and under COP2_MODE = Refuse the refusal named for it. -/
def Obligations.Cop2GroupByMode : Prop :=
  ∀ (s : State) (i : Instr) (op : BitVec 26) (rt rs : Reg) (imm : Half),
    i = .cop2 op ∨ i = .lwc2 rt rs imm ∨ i = .swc2 rt rs imm →
    (s.cfg.cop2Mode = .noOp → ∃ t, exec i s = .next t ∧ EndsWith s t none none) ∧
    (s.cfg.cop2Mode = .refuse → exec i s = .refused .cop2Word)

/-- The interrupt poll takes Int exactly when an enabled line is up (R51, R54, R79, R124, R431, R437, R470). After an
instruction: when SR.IEc is 1 and some Im bit k meets an IP bit k (the stored bit, or for bit 2 also a bit set in both
I_STAT and I_MASK), Int is entered, with the next instruction, or the branch just executed, as EPC; otherwise nothing
changes. -/
def Obligations.InterruptPoll : Prop :=
  ∀ s : State,
    let up := s.sr.getLsbD 0 = true ∧ ∃ k, k < 8 ∧ s.sr.getLsbD (8 + k) = true ∧
      (s.cause.getLsbD (8 + k) = true ∨ (k = 2 ∧ ∃ n, n < 16 ∧ s.iStat.getLsbD n = true ∧ s.iMask.getLsbD n = true))
    (up → Entered s s.poll .int 0#32) ∧ (¬ up → s.poll = s)

/-- SR, Cause, EPC and BadVaddr change only by MTC0, RFE and exception entry (R46). For every instruction and every state,
when exec answers a next state the four COP0 registers are unchanged, or the instruction is MTC0 to SR or Cause and
EPC and BadVaddr stand, or it is RFE and only SR may differ, or the next state is that of an exception entry. A step
that fires an event changes none of them, whatever a collaborator does; and the interrupt poll changes them only by
the entry of Int. -/
def Obligations.Cop0ChangesOnlyByItsOwners : Prop :=
  (∀ (i : Instr) (s t : State), exec i s = .next t →
    (t.sr = s.sr ∧ t.cause = s.cause ∧ t.epc = s.epc ∧ t.badVaddr = s.badVaddr) ∨
    (∃ rt rd, i = .mtc0 rt rd ∧ (rd = 12#5 ∨ rd = 13#5) ∧ t.epc = s.epc ∧ t.badVaddr = s.badVaddr) ∨
    (i = .rfe ∧ t.cause = s.cause ∧ t.epc = s.epc ∧ t.badVaddr = s.badVaddr) ∨
    (∃ c ba, c ≠ .int ∧ Raises s t c ba)) ∧
    (∀ (s t : State) (e : Event), s.nextWake ≤ s.cycles → s.dueEvent = some e → step s = .next t →
      t.sr = s.sr ∧ t.cause = s.cause ∧ t.epc = s.epc ∧ t.badVaddr = s.badVaddr) ∧
    ∀ s : State, (s.poll.sr = s.sr ∧ s.poll.cause = s.cause ∧ s.poll.epc = s.epc ∧ s.poll.badVaddr = s.badVaddr) ∨
      Entered s s.poll .int 0#32

/-- HI and LO change only by the multiply, divide and move instructions (R44, R440). For every instruction other than
MULT, MULTU, DIV, DIVU, MTHI and MTLO and every state, a next state of exec has the HI and LO of before; so has the
state after an exception entry or the interrupt poll. -/
def Obligations.HiLoChangeOnlyByTheirOwners : Prop :=
  (∀ (i : Instr) (s t : State), exec i s = .next t →
      (∀ a b, i ≠ .mult a b ∧ i ≠ .multu a b ∧ i ≠ .div a b ∧ i ≠ .divu a b ∧ i ≠ .mthi a ∧ i ≠ .mtlo a) →
      t.hi = s.hi ∧ t.lo = s.lo) ∧
    ∀ s : State, s.poll.hi = s.hi ∧ s.poll.lo = s.lo

/-- An instruction does the same in kernel and user mode (R47, R50, R395, R460). For every instruction but MFC0 of SR and
every two states that differ in SR alone and agree there on Isc and BEV: exec stops on one exactly as on the other,
and where it answers next states they too differ in SR alone. So no instruction, COP0 access or address is checked
against the mode, the coprocessor-usable bits or any other bit of SR. -/
def Obligations.ModeChecksNothing : Prop :=
  ∀ (i : Instr) (s : State) (v : Word), (∀ rt, i ≠ .mfc0 rt 12#5) →
    v.getLsbD 16 = s.sr.getLsbD 16 → v.getLsbD 22 = s.sr.getLsbD 22 →
    (∀ t, exec i s = .next t → ∃ x, exec i { s with sr := v } = .next { t with sr := x }) ∧
    (∀ r, exec i s = .refused r → exec i { s with sr := v } = .refused r) ∧
    (∀ f, exec i s ≠ .fault f)

/-- What a turn of the external collaborators can do (R118, R123, R481, R482, R483, R580). When no call of the next turn
is one the spec refuses, the turn sets the I_STAT bits its triggerInterrupt calls name, appends one entry per schedule
call in order with consecutive numbers, lowers next-wake to the least new target, and changes nothing else. A single
triggerInterrupt outside 0..15 is refused, and so is an event at or beyond the sentinel. (The script that holds the
turns is the model's, log 7.) -/
def Obligations.CollaboratorTurn : Prop :=
  (∀ s : State, s.turnAllowed → ∃ u, collaboratorTurn s = .ok u ∧ TookTurn s u) ∧
    (∀ (s : State) (n : Nat), 16 ≤ n → triggerInterrupt n s = .error .interruptNumberOutOfRange) ∧
    (∀ (s : State) (delta : Nat) (p : Payload), 2 ^ 64 - 1 ≤ s.cycles + delta →
      scheduleEvent delta p s = .error .eventAtOrBeyondSentinel)

/-- The event due is removed and fires, first by target, then by number (R481, R483, R484, R485, R486, R575). In a state
with the invariant and no refusal recorded, when e is the entry with the least (target, number) and its target is
reached, the step fires it and nothing else: e leaves the queue for good, Irq(n) sets bit n of I_STAT, Ext runs the
collaborators' turn, and next-wake is the least target left. When no target is reached, next-wake lies above the cycle
counter, so the step is a CPU step. (That one step fires one event alone, and that next-wake is the least target left
after that single firing, where R484 sets it when handleEvents ends, is the model's reading, log 8; the calls of the
collaborators' turn are read from the model's script, log 7.) -/
def Obligations.DueEventFiresOnce : Prop :=
  ∀ s : State, s.Inv → s.refusalMark = false →
    (∀ e ∈ s.queue, e ≠ sentinelEvent → e.target ≤ s.cycles →
      (∀ f ∈ s.queue, f ≠ e → e.target < f.target ∨ (e.target = f.target ∧ e.seq < f.seq)) →
      (∀ n, e.payload = .irq n → n < 16 → ∃ t, step s = .next t ∧
        t = { s with iStat := t.iStat, queue := s.queue.erase e, nextWake := t.nextWake } ∧ e ∉ t.queue ∧
        (∀ k, k < 16 → t.iStat.getLsbD k = (s.iStat.getLsbD k || k == n)) ∧
        t.nextWake ∈ t.queue.map Event.target ∧ ∀ f ∈ t.queue, t.nextWake ≤ f.target) ∧
      (∀ k, e.payload = .ext k → s.turnAllowed → ∃ t w, step s = .next t ∧
        TookTurn { s with queue := s.queue.erase e, nextWake := w } t ∧ e ∉ t.queue ∧
        t.nextWake ∈ t.queue.map Event.target ∧ ∀ f ∈ t.queue, t.nextWake ≤ f.target)) ∧
    ((∀ e ∈ s.queue, s.cycles < e.target) → s.cycles < s.nextWake)

/-- Completion of a channel (R507, R511, R512, R519). When the target of its interrupt lies below the sentinel, the
completion of a channel clears bits 24 and 28 of its CHCR and no other bit, sets its pending bit in DICR exactly when
its enable bit is set, recomputes the master flag, queues interrupt 3 at the flag's rise alone, and changes nothing
else. -/
def Obligations.CompletionRule : Prop :=
  ∀ (s : State) (n : Fin 7), s.cycles + s.cfg.dmaIrqDelay < 2 ^ 64 - 1 →
    ∃ t x, completeChannel n s = .ok t ∧
      NewDicr { s with chans := s.chans.set n.val { s.chans[n] with chcr := x } } t
        (fun k => s.dicr.getLsbD k || (k == 24 + n.val && s.dicr.getLsbD (16 + n.val))) ∧
      ∀ k, k < 32 → x.getLsbD k = (s.chans[n].chcr.getLsbD k && k != 24 && k != 28)

/-- After an activation pass no channel is active, and the DMA registers stand (R117, R503, R504, R506, R515, R521).
Whatever the channels do, when an activation pass completes: no channel is active; every MADR, BCR and DPCR, and every
CHCR bit but 24 and 28, is as before; a channel that was not active has its CHCR as before; the cycle counter, the
CPU's registers and program counters, SR, Cause, EPC, BadVaddr and I_MASK are as before; memory outside RAM is as
before. -/
def Obligations.ActivationPassLaws : Prop :=
  ∀ s t : State, activationPass s = .ok t →
    (∀ n : Fin 7, ¬ t.chans[n].startsTransfer) ∧
    (∀ n : Fin 7, t.chans[n].madr = s.chans[n].madr ∧ t.chans[n].bcr = s.chans[n].bcr ∧
      (∀ k, k ≠ 24 → k ≠ 28 → t.chans[n].chcr.getLsbD k = s.chans[n].chcr.getLsbD k) ∧
      (¬ s.chans[n].startsTransfer → t.chans[n].chcr = s.chans[n].chcr)) ∧
    t.dpcr = s.dpcr ∧ t.cycles = s.cycles ∧ t.regs = s.regs ∧ t.hi = s.hi ∧ t.lo = s.lo ∧ t.pc = s.pc ∧ t.nextpc = s.nextpc ∧
    t.curpc = s.curpc ∧ t.pending = s.pending ∧ t.sr = s.sr ∧ t.cause = s.cause ∧ t.epc = s.epc ∧ t.badVaddr = s.badVaddr ∧
    t.iMask = s.iMask ∧ (∀ a, 0x200000 ≤ a → Memory.read t.mem a = Memory.read s.mem a)

/-- Which algorithm a channel runs, and the modes that are refused (R500, R504, R513). An activated channel runs, in
Manual or Request sync, the ordering-table clear if it is channel 6 and a block copy otherwise, of BS or BS * BA words
from MADR; in linked-list sync the walk, for channel 2 with the direction from RAM alone; every other case is refused. -/
def Obligations.ChannelAlgorithms : Prop :=
  ∀ (s : State) (n : Fin 7),
    let c := s.chans[n]
    let y := c.chcr.toNat / 2 ^ 9 % 4
    (y ≤ 1 → n = 6 → runChannel n s = .ok (orderingTable c.words c.madr s)) ∧
    (y ≤ 1 → n ≠ 6 → runChannel n s =
      blockCopy n (c.chcr.toNat % 2 == 1) (c.chcr.toNat / 2 % 2 == 1) c.words c.madr s) ∧
    (y = 2 → n = 2 → c.chcr.toNat % 2 = 1 → runChannel n s = linkedList (ramWords + 1) [] c.madr s) ∧
    (y = 3 ∨ (y = 2 ∧ (n ≠ 2 ∨ c.chcr.toNat % 2 = 0)) → runChannel n s = .error .dmaModeNotSupported)

/-- The ordering-table clear links RAM downward and ends with the marker (R503, R517, R520). With memory in canonical
form, for every number of words and every start address, the clear writes at the i-th word, going down by 4, the
address below it in 21 bits, and 0x00FFFFFF at the last; where addresses come round again the last write stands; no
other byte of memory and nothing else of the state changes. -/
def Obligations.OrderingTableClears : Prop :=
  ∀ (s : State) (a : Word) (count : Nat), Memory.wf s.mem = true →
    orderingTable count a s = { s with mem := (orderingTable count a s).mem } ∧
    WordsWritten s.mem (orderingTable count a s).mem count (dmaAddr a true)
      (fun i => if i + 1 = count then 0x00FFFFFF#32 else BitVec.ofNat 32 ((dmaAddr a true (i + 1)).toNat % 0x200000))

/-- A store that starts channel 6 clears the table inside the store (R502, R509, R515, R517, R519). Under a well-formed
configuration and with memory in canonical form, not isolated, SW to CHCR_6 of a value that makes channel 6 the one
active channel in Manual or Request sync (the target of its interrupt below the sentinel) answers a next state: the
access alone is charged, the ordering table stands in RAM and every other byte as before, CHCR_6 is the value with
bits 24 and 28 cleared, DICR and the queue are as completion leaves them, and nothing else changes but for the commit. -/
def Obligations.StoreRunsOrderingTable : Prop :=
  ∀ (s : State) (rt rs : Reg) (imm : Half), s.cfg.wf = true → Memory.wf s.mem = true → ¬ isolated s → virtPhys (s.ea rs imm) = 0x1F8010E8 →
    s.cycles + s.cfg.dataAccessCycles + s.cfg.dmaIrqDelay < 2 ^ 64 - 1 →
    let v := s.readReg rt
    let c : Channel := { s.chans[6] with chcr := v }
    c.startsTransfer → v.toNat / 2 ^ 9 % 4 ≤ 1 → (∀ n : Fin 7, n ≠ 6 → ¬ s.chans[n].startsTransfer) →
    ∃ t m x mem, exec (.sw rt rs imm) s = .next t ∧ EndsWith m t none none ∧
      WordsWritten s.mem mem c.words (dmaAddr c.madr true) (fun i => if i + 1 = c.words then 0x00FFFFFF#32
        else BitVec.ofNat 32 ((dmaAddr c.madr true (i + 1)).toNat % 0x200000)) ∧
      (∀ k, k < 32 → x.getLsbD k = (v.getLsbD k && k != 24 && k != 28)) ∧
      NewDicr { s with cycles := s.cycles + s.cfg.dataAccessCycles, mem := mem, chans := s.chans.set 6 { c with chcr := x } } m
        (fun k => s.dicr.getLsbD k || (k == 30 && s.dicr.getLsbD 22))

/-- The linked-list transfer sends the walk's words, and is refused exactly on a loop (R447, R518). When the linked-list
transfer of channel 2 from an address completes, the chain of nodes from it ends at a terminal node without coming
back to one, the payload words of its nodes have been recorded as port writes in order, and memory is as before; with
no collaborator's turn outstanding it completes on every such chain, and on every other is refused as never
terminating. So the model's bound on the walk is never what stops it (log 12). (The record, newest first, and the
script that holds the collaborator's turns are the model's form of R514 and R580, log 10 and 7.) -/
def Obligations.LinkedListWalk : Prop :=
  ∀ (s : State) (a : Word),
    (∀ t, linkedList (ramWords + 1) [] a s = .ok t →
      ∃ ws, ListWalk s.mem [] (ramOffset a) ws ∧ t.mem = s.mem ∧ t.chans = s.chans ∧ t.dicr = s.dicr ∧
        t.extLog = (ws.map (ExtRecord.portWrite 2)).reverse ++ s.extLog) ∧
    (s.script = [] → ∀ ws, ListWalk s.mem [] (ramOffset a) ws →
      ∃ t, linkedList (ramWords + 1) [] a s = .ok t ∧ t = { s with extLog := t.extLog }) ∧
    (s.script = [] → (∀ ws, ¬ ListWalk s.mem [] (ramOffset a) ws) →
      linkedList (ramWords + 1) [] a s = .error .linkedListNeverTerminates)

/-- A later machine reset, and the installing of the boot image (R69, R71, R560, R562, R580). A machine reset puts every
state element at its reset value, clears the refusal mark, leaves every byte of ROM as it was and zeroes RAM and the
scratchpad; the configuration stands. Installing the boot image takes exactly 512 KiB and, with memory in canonical
form, puts its bytes in ROM in order and changes no other byte; another size is not admitted. (That both are
operations no step runs, and that a machine reset leaves the configuration and the model's own fields, the draw
counter, the script and the record, as they were, is the model's choice, log 13.) -/
def Obligations.MachineReset : Prop :=
  (∀ s : State, s.machineReset = { State.reset with
      mem := s.machineReset.mem, draws := s.draws, script := s.script, extLog := s.extLog, cfg := s.cfg } ∧
    (∀ a, 0x1FC00000 ≤ a → a ≤ 0x1FC7FFFF → Memory.read s.machineReset.mem a = Memory.read s.mem a) ∧
    (∀ a, a < 0x1FC00000 → Memory.read s.machineReset.mem a = 0#8)) ∧
    (∀ (s : State) (image : List Byte), image.length ≠ 0x80000 → s.installImage image = none) ∧
    (∀ (s : State) (image : List Byte) (h : image.length = 0x80000), Memory.wf s.mem = true → ∃ t, s.installImage image = some t ∧
      t = { s with mem := t.mem } ∧
      (∀ k (hk : k < 0x80000), Memory.read t.mem (0x1FC00000 + k) = image[k]) ∧
      ∀ a, a < 0x1FC00000 ∨ 0x1FC7FFFF < a → Memory.read t.mem a = Memory.read s.mem a)

/-- MTC0 of every register number, and RFE (R45, R48, R49, R54, R55, R56, R57, R58, R393, R394). In every state MTC0
answers a next state: for 12 SR is rt whole; for 13 bits 9:8 of Cause are rt's and the others stand; for every other
number nothing is written. In every state RFE answers a next state: SR bits 3:0 are the old bits 5:2 and bits 31:4
stand. Nothing else changes but for the commit; in particular pc and nextpc stand. -/
def Obligations.Cop0Writes : Prop :=
  ∀ (s : State) (rt rd : Reg),
    (∃ t, exec (.mtc0 rt rd) s = .next t ∧
      (rd = 12#5 → EndsWith { s with sr := s.readReg rt } t none none) ∧
      (rd = 13#5 → ∃ x, EndsWith { s with cause := x } t none none ∧
        ∀ k, k < 32 → x.getLsbD k = if k = 8 ∨ k = 9 then (s.readReg rt).getLsbD k else s.cause.getLsbD k) ∧
      (rd ≠ 12#5 → rd ≠ 13#5 → EndsWith s t none none)) ∧
    (∃ t x, exec .rfe s = .next t ∧ EndsWith { s with sr := x } t none none ∧
      ∀ k, k < 32 → x.getLsbD k = if k < 4 then s.sr.getLsbD (k + 2) else s.sr.getLsbD k)

/-- When a channel is active, and the master flag (R509, R510). A channel is active exactly when its CHCR bit 24 is 1 and
its sync mode is not Manual or its bit 28 is 1. The master value of DICR is forceIRQ, or masterEnable with some
channel both enabled and pending. -/
def Obligations.DmaRules : Prop :=
  (∀ c : Channel, c.active = true ↔ c.startsTransfer) ∧ ∀ d : Word, masterValue d = true ↔ masterFlag d

/-- A block copy moves its words between RAM and the port in order (R514, R516, R520). With memory in canonical form: when
a block copy from RAM completes, memory is as before and the words of RAM at its addresses, going up or down by 4,
have been recorded as port writes of its channel in order. When one to RAM completes, one free value has been taken
per word, the i-th is written at the i-th address (where addresses come round again the last write stands), and every
other byte is as before. With no collaborator's turn outstanding both complete, and nothing else changes. (The record,
the free values and the script of turns are the model's form of R514 and R580, log 6, 7 and 10.) -/
def Obligations.BlockCopies : Prop :=
  ∀ (s : State) (n : Fin 7) (down : Bool) (count : Nat) (a : Word), Memory.wf s.mem = true →
    (∀ t, blockCopy n true down count a s = .ok t →
      t.mem = s.mem ∧ t.chans = s.chans ∧ t.dicr = s.dicr ∧ t.draws = s.draws ∧
      t.extLog = ((List.range count).map (fun i =>
        ExtRecord.portWrite n.val (BitVec.ofNat 32 (leNat s.mem (ramOffset (dmaAddr a down i)) 4)))).reverse ++ s.extLog) ∧
    (s.script = [] → ∃ t, blockCopy n true down count a s = .ok t ∧ t = { s with extLog := t.extLog }) ∧
    (∀ t, blockCopy n false down count a s = .ok t →
      WordsWritten s.mem t.mem count (dmaAddr a down) (fun i => Config.drawWord (s.draws + i)) ∧
      t.draws = s.draws + count ∧ t.chans = s.chans ∧ t.dicr = s.dicr ∧ t.extLog = s.extLog) ∧
    (s.script = [] → ∃ t, blockCopy n false down count a s = .ok t ∧ t = { s with mem := t.mem, draws := t.draws })

end
end

