-- ==== Sys2Proof/Laws/State.lean ====
section
/-! SUPPORT. One lemma for each field of the state under each named update: what the update writes there, or that it leaves the
field as it was. -/

namespace Sys2Proof.Machine

/-! ### State.commit -/

@[simp] theorem State.commit_regs (s : State) (w l : Option RegWrite) : (s.commit w l).regs = writeFileOpt (writeFileOpt s.regs (s.committing l)) w := rfl
@[simp] theorem State.commit_hi (s : State) (w l : Option RegWrite) : (s.commit w l).hi = s.hi := rfl
@[simp] theorem State.commit_lo (s : State) (w l : Option RegWrite) : (s.commit w l).lo = s.lo := rfl
@[simp] theorem State.commit_pc (s : State) (w l : Option RegWrite) : (s.commit w l).pc = s.pc := rfl
@[simp] theorem State.commit_nextpc (s : State) (w l : Option RegWrite) : (s.commit w l).nextpc = s.nextpc := rfl
@[simp] theorem State.commit_curpc (s : State) (w l : Option RegWrite) : (s.commit w l).curpc = s.curpc := rfl
@[simp] theorem State.commit_flagB (s : State) (w l : Option RegWrite) : (s.commit w l).flagB = s.flagB := rfl
@[simp] theorem State.commit_flagT (s : State) (w l : Option RegWrite) : (s.commit w l).flagT = s.flagT := rfl
@[simp] theorem State.commit_flagDS (s : State) (w l : Option RegWrite) : (s.commit w l).flagDS = s.flagDS := rfl
@[simp] theorem State.commit_flagDT (s : State) (w l : Option RegWrite) : (s.commit w l).flagDT = s.flagDT := rfl
@[simp] theorem State.commit_pending (s : State) (w l : Option RegWrite) : (s.commit w l).pending = l := rfl
@[simp] theorem State.commit_sr (s : State) (w l : Option RegWrite) : (s.commit w l).sr = s.sr := rfl
@[simp] theorem State.commit_cause (s : State) (w l : Option RegWrite) : (s.commit w l).cause = s.cause := rfl
@[simp] theorem State.commit_epc (s : State) (w l : Option RegWrite) : (s.commit w l).epc = s.epc := rfl
@[simp] theorem State.commit_badVaddr (s : State) (w l : Option RegWrite) : (s.commit w l).badVaddr = s.badVaddr := rfl
@[simp] theorem State.commit_mem (s : State) (w l : Option RegWrite) : (s.commit w l).mem = s.mem := rfl
@[simp] theorem State.commit_iStat (s : State) (w l : Option RegWrite) : (s.commit w l).iStat = s.iStat := rfl
@[simp] theorem State.commit_iMask (s : State) (w l : Option RegWrite) : (s.commit w l).iMask = s.iMask := rfl
@[simp] theorem State.commit_cycles (s : State) (w l : Option RegWrite) : (s.commit w l).cycles = s.cycles := rfl
@[simp] theorem State.commit_queue (s : State) (w l : Option RegWrite) : (s.commit w l).queue = s.queue := rfl
@[simp] theorem State.commit_seq (s : State) (w l : Option RegWrite) : (s.commit w l).seq = s.seq := rfl
@[simp] theorem State.commit_nextWake (s : State) (w l : Option RegWrite) : (s.commit w l).nextWake = s.nextWake := rfl
@[simp] theorem State.commit_chans (s : State) (w l : Option RegWrite) : (s.commit w l).chans = s.chans := rfl
@[simp] theorem State.commit_dpcr (s : State) (w l : Option RegWrite) : (s.commit w l).dpcr = s.dpcr := rfl
@[simp] theorem State.commit_dicr (s : State) (w l : Option RegWrite) : (s.commit w l).dicr = s.dicr := rfl
@[simp] theorem State.commit_refusalMark (s : State) (w l : Option RegWrite) : (s.commit w l).refusalMark = s.refusalMark := rfl
@[simp] theorem State.commit_draws (s : State) (w l : Option RegWrite) : (s.commit w l).draws = s.draws := rfl
@[simp] theorem State.commit_script (s : State) (w l : Option RegWrite) : (s.commit w l).script = s.script := rfl
@[simp] theorem State.commit_extLog (s : State) (w l : Option RegWrite) : (s.commit w l).extLog = s.extLog := rfl
@[simp] theorem State.commit_cfg (s : State) (w l : Option RegWrite) : (s.commit w l).cfg = s.cfg := rfl

/-! ### State.startStep -/

@[simp] theorem State.startStep_regs (s : State) : s.startStep.regs = s.regs := rfl
@[simp] theorem State.startStep_hi (s : State) : s.startStep.hi = s.hi := rfl
@[simp] theorem State.startStep_lo (s : State) : s.startStep.lo = s.lo := rfl
@[simp] theorem State.startStep_pc (s : State) : s.startStep.pc = s.pc := rfl
@[simp] theorem State.startStep_nextpc (s : State) : s.startStep.nextpc = s.nextpc := rfl
@[simp] theorem State.startStep_curpc (s : State) : s.startStep.curpc = s.pc := rfl
@[simp] theorem State.startStep_flagB (s : State) : s.startStep.flagB = false := rfl
@[simp] theorem State.startStep_flagT (s : State) : s.startStep.flagT = false := rfl
@[simp] theorem State.startStep_flagDS (s : State) : s.startStep.flagDS = s.flagB := rfl
@[simp] theorem State.startStep_flagDT (s : State) : s.startStep.flagDT = s.flagT := rfl
@[simp] theorem State.startStep_pending (s : State) : s.startStep.pending = s.pending := rfl
@[simp] theorem State.startStep_sr (s : State) : s.startStep.sr = s.sr := rfl
@[simp] theorem State.startStep_cause (s : State) : s.startStep.cause = s.cause := rfl
@[simp] theorem State.startStep_epc (s : State) : s.startStep.epc = s.epc := rfl
@[simp] theorem State.startStep_badVaddr (s : State) : s.startStep.badVaddr = s.badVaddr := rfl
@[simp] theorem State.startStep_mem (s : State) : s.startStep.mem = s.mem := rfl
@[simp] theorem State.startStep_iStat (s : State) : s.startStep.iStat = s.iStat := rfl
@[simp] theorem State.startStep_iMask (s : State) : s.startStep.iMask = s.iMask := rfl
@[simp] theorem State.startStep_cycles (s : State) : s.startStep.cycles = s.cycles := rfl
@[simp] theorem State.startStep_queue (s : State) : s.startStep.queue = s.queue := rfl
@[simp] theorem State.startStep_seq (s : State) : s.startStep.seq = s.seq := rfl
@[simp] theorem State.startStep_nextWake (s : State) : s.startStep.nextWake = s.nextWake := rfl
@[simp] theorem State.startStep_chans (s : State) : s.startStep.chans = s.chans := rfl
@[simp] theorem State.startStep_dpcr (s : State) : s.startStep.dpcr = s.dpcr := rfl
@[simp] theorem State.startStep_dicr (s : State) : s.startStep.dicr = s.dicr := rfl
@[simp] theorem State.startStep_refusalMark (s : State) : s.startStep.refusalMark = s.refusalMark := rfl
@[simp] theorem State.startStep_draws (s : State) : s.startStep.draws = s.draws := rfl
@[simp] theorem State.startStep_script (s : State) : s.startStep.script = s.script := rfl
@[simp] theorem State.startStep_extLog (s : State) : s.startStep.extLog = s.extLog := rfl
@[simp] theorem State.startStep_cfg (s : State) : s.startStep.cfg = s.cfg := rfl

/-! ### State.advance -/

@[simp] theorem State.advance_regs (s : State) : s.advance.regs = s.regs := rfl
@[simp] theorem State.advance_hi (s : State) : s.advance.hi = s.hi := rfl
@[simp] theorem State.advance_lo (s : State) : s.advance.lo = s.lo := rfl
@[simp] theorem State.advance_pc (s : State) : s.advance.pc = s.nextpc := rfl
@[simp] theorem State.advance_nextpc (s : State) : s.advance.nextpc = s.nextpc + 4#32 := rfl
@[simp] theorem State.advance_curpc (s : State) : s.advance.curpc = s.curpc := rfl
@[simp] theorem State.advance_flagB (s : State) : s.advance.flagB = s.flagB := rfl
@[simp] theorem State.advance_flagT (s : State) : s.advance.flagT = s.flagT := rfl
@[simp] theorem State.advance_flagDS (s : State) : s.advance.flagDS = s.flagDS := rfl
@[simp] theorem State.advance_flagDT (s : State) : s.advance.flagDT = s.flagDT := rfl
@[simp] theorem State.advance_pending (s : State) : s.advance.pending = s.pending := rfl
@[simp] theorem State.advance_sr (s : State) : s.advance.sr = s.sr := rfl
@[simp] theorem State.advance_cause (s : State) : s.advance.cause = s.cause := rfl
@[simp] theorem State.advance_epc (s : State) : s.advance.epc = s.epc := rfl
@[simp] theorem State.advance_badVaddr (s : State) : s.advance.badVaddr = s.badVaddr := rfl
@[simp] theorem State.advance_mem (s : State) : s.advance.mem = s.mem := rfl
@[simp] theorem State.advance_iStat (s : State) : s.advance.iStat = s.iStat := rfl
@[simp] theorem State.advance_iMask (s : State) : s.advance.iMask = s.iMask := rfl
@[simp] theorem State.advance_cycles (s : State) : s.advance.cycles = s.cycles := rfl
@[simp] theorem State.advance_queue (s : State) : s.advance.queue = s.queue := rfl
@[simp] theorem State.advance_seq (s : State) : s.advance.seq = s.seq := rfl
@[simp] theorem State.advance_nextWake (s : State) : s.advance.nextWake = s.nextWake := rfl
@[simp] theorem State.advance_chans (s : State) : s.advance.chans = s.chans := rfl
@[simp] theorem State.advance_dpcr (s : State) : s.advance.dpcr = s.dpcr := rfl
@[simp] theorem State.advance_dicr (s : State) : s.advance.dicr = s.dicr := rfl
@[simp] theorem State.advance_refusalMark (s : State) : s.advance.refusalMark = s.refusalMark := rfl
@[simp] theorem State.advance_draws (s : State) : s.advance.draws = s.draws := rfl
@[simp] theorem State.advance_script (s : State) : s.advance.script = s.script := rfl
@[simp] theorem State.advance_extLog (s : State) : s.advance.extLog = s.extLog := rfl
@[simp] theorem State.advance_cfg (s : State) : s.advance.cfg = s.cfg := rfl

/-! ### State.charge -/

@[simp] theorem State.charge_regs (s : State) (n : Nat) : (s.charge n).regs = s.regs := rfl
@[simp] theorem State.charge_hi (s : State) (n : Nat) : (s.charge n).hi = s.hi := rfl
@[simp] theorem State.charge_lo (s : State) (n : Nat) : (s.charge n).lo = s.lo := rfl
@[simp] theorem State.charge_pc (s : State) (n : Nat) : (s.charge n).pc = s.pc := rfl
@[simp] theorem State.charge_nextpc (s : State) (n : Nat) : (s.charge n).nextpc = s.nextpc := rfl
@[simp] theorem State.charge_curpc (s : State) (n : Nat) : (s.charge n).curpc = s.curpc := rfl
@[simp] theorem State.charge_flagB (s : State) (n : Nat) : (s.charge n).flagB = s.flagB := rfl
@[simp] theorem State.charge_flagT (s : State) (n : Nat) : (s.charge n).flagT = s.flagT := rfl
@[simp] theorem State.charge_flagDS (s : State) (n : Nat) : (s.charge n).flagDS = s.flagDS := rfl
@[simp] theorem State.charge_flagDT (s : State) (n : Nat) : (s.charge n).flagDT = s.flagDT := rfl
@[simp] theorem State.charge_pending (s : State) (n : Nat) : (s.charge n).pending = s.pending := rfl
@[simp] theorem State.charge_sr (s : State) (n : Nat) : (s.charge n).sr = s.sr := rfl
@[simp] theorem State.charge_cause (s : State) (n : Nat) : (s.charge n).cause = s.cause := rfl
@[simp] theorem State.charge_epc (s : State) (n : Nat) : (s.charge n).epc = s.epc := rfl
@[simp] theorem State.charge_badVaddr (s : State) (n : Nat) : (s.charge n).badVaddr = s.badVaddr := rfl
@[simp] theorem State.charge_mem (s : State) (n : Nat) : (s.charge n).mem = s.mem := rfl
@[simp] theorem State.charge_iStat (s : State) (n : Nat) : (s.charge n).iStat = s.iStat := rfl
@[simp] theorem State.charge_iMask (s : State) (n : Nat) : (s.charge n).iMask = s.iMask := rfl
@[simp] theorem State.charge_cycles (s : State) (n : Nat) : (s.charge n).cycles = s.cycles + n := rfl
@[simp] theorem State.charge_queue (s : State) (n : Nat) : (s.charge n).queue = s.queue := rfl
@[simp] theorem State.charge_seq (s : State) (n : Nat) : (s.charge n).seq = s.seq := rfl
@[simp] theorem State.charge_nextWake (s : State) (n : Nat) : (s.charge n).nextWake = s.nextWake := rfl
@[simp] theorem State.charge_chans (s : State) (n : Nat) : (s.charge n).chans = s.chans := rfl
@[simp] theorem State.charge_dpcr (s : State) (n : Nat) : (s.charge n).dpcr = s.dpcr := rfl
@[simp] theorem State.charge_dicr (s : State) (n : Nat) : (s.charge n).dicr = s.dicr := rfl
@[simp] theorem State.charge_refusalMark (s : State) (n : Nat) : (s.charge n).refusalMark = s.refusalMark := rfl
@[simp] theorem State.charge_draws (s : State) (n : Nat) : (s.charge n).draws = s.draws := rfl
@[simp] theorem State.charge_script (s : State) (n : Nat) : (s.charge n).script = s.script := rfl
@[simp] theorem State.charge_extLog (s : State) (n : Nat) : (s.charge n).extLog = s.extLog := rfl
@[simp] theorem State.charge_cfg (s : State) (n : Nat) : (s.charge n).cfg = s.cfg := rfl

/-! ### State.enter -/

@[simp] theorem State.enter_regs (s : State) (c : Exc) (ba : Word) : (s.enter c ba).regs = s.regs := rfl
@[simp] theorem State.enter_hi (s : State) (c : Exc) (ba : Word) : (s.enter c ba).hi = s.hi := rfl
@[simp] theorem State.enter_lo (s : State) (c : Exc) (ba : Word) : (s.enter c ba).lo = s.lo := rfl
@[simp] theorem State.enter_pc (s : State) (c : Exc) (ba : Word) : (s.enter c ba).pc = vector s.bev := rfl
@[simp] theorem State.enter_nextpc (s : State) (c : Exc) (ba : Word) : (s.enter c ba).nextpc = vector s.bev + 4#32 := rfl
@[simp] theorem State.enter_curpc (s : State) (c : Exc) (ba : Word) : (s.enter c ba).curpc = s.curpc := rfl
@[simp] theorem State.enter_flagB (s : State) (c : Exc) (ba : Word) : (s.enter c ba).flagB = false := rfl
@[simp] theorem State.enter_flagT (s : State) (c : Exc) (ba : Word) : (s.enter c ba).flagT = false := rfl
@[simp] theorem State.enter_flagDS (s : State) (c : Exc) (ba : Word) : (s.enter c ba).flagDS = s.flagDS := rfl
@[simp] theorem State.enter_flagDT (s : State) (c : Exc) (ba : Word) : (s.enter c ba).flagDT = s.flagDT := rfl
@[simp] theorem State.enter_pending (s : State) (c : Exc) (ba : Word) : (s.enter c ba).pending = s.pending := rfl
@[simp] theorem State.enter_sr (s : State) (c : Exc) (ba : Word) : (s.enter c ba).sr = pushMode s.sr := rfl
@[simp] theorem State.enter_cause (s : State) (c : Exc) (ba : Word) : (s.enter c ba).cause = entryCause s.cfg.causeEntryMode s.cause c (s.savedPC c).2.1 (s.savedPC c).2.2 := rfl
@[simp] theorem State.enter_epc (s : State) (c : Exc) (ba : Word) : (s.enter c ba).epc = (s.savedPC c).1 := rfl
@[simp] theorem State.enter_badVaddr (s : State) (c : Exc) (ba : Word) : (s.enter c ba).badVaddr = (if c.recordsAddress then ba else s.badVaddr) := rfl
@[simp] theorem State.enter_mem (s : State) (c : Exc) (ba : Word) : (s.enter c ba).mem = s.mem := rfl
@[simp] theorem State.enter_iStat (s : State) (c : Exc) (ba : Word) : (s.enter c ba).iStat = s.iStat := rfl
@[simp] theorem State.enter_iMask (s : State) (c : Exc) (ba : Word) : (s.enter c ba).iMask = s.iMask := rfl
@[simp] theorem State.enter_cycles (s : State) (c : Exc) (ba : Word) : (s.enter c ba).cycles = s.cycles := rfl
@[simp] theorem State.enter_queue (s : State) (c : Exc) (ba : Word) : (s.enter c ba).queue = s.queue := rfl
@[simp] theorem State.enter_seq (s : State) (c : Exc) (ba : Word) : (s.enter c ba).seq = s.seq := rfl
@[simp] theorem State.enter_nextWake (s : State) (c : Exc) (ba : Word) : (s.enter c ba).nextWake = s.nextWake := rfl
@[simp] theorem State.enter_chans (s : State) (c : Exc) (ba : Word) : (s.enter c ba).chans = s.chans := rfl
@[simp] theorem State.enter_dpcr (s : State) (c : Exc) (ba : Word) : (s.enter c ba).dpcr = s.dpcr := rfl
@[simp] theorem State.enter_dicr (s : State) (c : Exc) (ba : Word) : (s.enter c ba).dicr = s.dicr := rfl
@[simp] theorem State.enter_refusalMark (s : State) (c : Exc) (ba : Word) : (s.enter c ba).refusalMark = s.refusalMark := rfl
@[simp] theorem State.enter_draws (s : State) (c : Exc) (ba : Word) : (s.enter c ba).draws = s.draws := rfl
@[simp] theorem State.enter_script (s : State) (c : Exc) (ba : Word) : (s.enter c ba).script = s.script := rfl
@[simp] theorem State.enter_extLog (s : State) (c : Exc) (ba : Word) : (s.enter c ba).extLog = s.extLog := rfl
@[simp] theorem State.enter_cfg (s : State) (c : Exc) (ba : Word) : (s.enter c ba).cfg = s.cfg := rfl

/-! ### State.returnFromException -/

@[simp] theorem State.returnFromException_regs (s : State) : s.returnFromException.regs = s.regs := rfl
@[simp] theorem State.returnFromException_hi (s : State) : s.returnFromException.hi = s.hi := rfl
@[simp] theorem State.returnFromException_lo (s : State) : s.returnFromException.lo = s.lo := rfl
@[simp] theorem State.returnFromException_pc (s : State) : s.returnFromException.pc = s.pc := rfl
@[simp] theorem State.returnFromException_nextpc (s : State) : s.returnFromException.nextpc = s.nextpc := rfl
@[simp] theorem State.returnFromException_curpc (s : State) : s.returnFromException.curpc = s.curpc := rfl
@[simp] theorem State.returnFromException_flagB (s : State) : s.returnFromException.flagB = s.flagB := rfl
@[simp] theorem State.returnFromException_flagT (s : State) : s.returnFromException.flagT = s.flagT := rfl
@[simp] theorem State.returnFromException_flagDS (s : State) : s.returnFromException.flagDS = s.flagDS := rfl
@[simp] theorem State.returnFromException_flagDT (s : State) : s.returnFromException.flagDT = s.flagDT := rfl
@[simp] theorem State.returnFromException_pending (s : State) : s.returnFromException.pending = s.pending := rfl
@[simp] theorem State.returnFromException_sr (s : State) : s.returnFromException.sr = popMode s.sr := rfl
@[simp] theorem State.returnFromException_cause (s : State) : s.returnFromException.cause = s.cause := rfl
@[simp] theorem State.returnFromException_epc (s : State) : s.returnFromException.epc = s.epc := rfl
@[simp] theorem State.returnFromException_badVaddr (s : State) : s.returnFromException.badVaddr = s.badVaddr := rfl
@[simp] theorem State.returnFromException_mem (s : State) : s.returnFromException.mem = s.mem := rfl
@[simp] theorem State.returnFromException_iStat (s : State) : s.returnFromException.iStat = s.iStat := rfl
@[simp] theorem State.returnFromException_iMask (s : State) : s.returnFromException.iMask = s.iMask := rfl
@[simp] theorem State.returnFromException_cycles (s : State) : s.returnFromException.cycles = s.cycles := rfl
@[simp] theorem State.returnFromException_queue (s : State) : s.returnFromException.queue = s.queue := rfl
@[simp] theorem State.returnFromException_seq (s : State) : s.returnFromException.seq = s.seq := rfl
@[simp] theorem State.returnFromException_nextWake (s : State) : s.returnFromException.nextWake = s.nextWake := rfl
@[simp] theorem State.returnFromException_chans (s : State) : s.returnFromException.chans = s.chans := rfl
@[simp] theorem State.returnFromException_dpcr (s : State) : s.returnFromException.dpcr = s.dpcr := rfl
@[simp] theorem State.returnFromException_dicr (s : State) : s.returnFromException.dicr = s.dicr := rfl
@[simp] theorem State.returnFromException_refusalMark (s : State) : s.returnFromException.refusalMark = s.refusalMark := rfl
@[simp] theorem State.returnFromException_draws (s : State) : s.returnFromException.draws = s.draws := rfl
@[simp] theorem State.returnFromException_script (s : State) : s.returnFromException.script = s.script := rfl
@[simp] theorem State.returnFromException_extLog (s : State) : s.returnFromException.extLog = s.extLog := rfl
@[simp] theorem State.returnFromException_cfg (s : State) : s.returnFromException.cfg = s.cfg := rfl

/-! ### State.transfer -/

@[simp] theorem State.transfer_regs (s : State) (k : Bool) (a : Word) : (s.transfer k a).regs = s.regs := by cases k <;> rfl
@[simp] theorem State.transfer_hi (s : State) (k : Bool) (a : Word) : (s.transfer k a).hi = s.hi := by cases k <;> rfl
@[simp] theorem State.transfer_lo (s : State) (k : Bool) (a : Word) : (s.transfer k a).lo = s.lo := by cases k <;> rfl
@[simp] theorem State.transfer_pc (s : State) (k : Bool) (a : Word) : (s.transfer k a).pc = s.pc := by cases k <;> rfl
@[simp] theorem State.transfer_nextpc (s : State) (k : Bool) (a : Word) : (s.transfer k a).nextpc = (if k then a else s.nextpc) := by cases k <;> rfl
@[simp] theorem State.transfer_curpc (s : State) (k : Bool) (a : Word) : (s.transfer k a).curpc = s.curpc := by cases k <;> rfl
@[simp] theorem State.transfer_flagB (s : State) (k : Bool) (a : Word) : (s.transfer k a).flagB = true := by cases k <;> rfl
@[simp] theorem State.transfer_flagT (s : State) (k : Bool) (a : Word) : (s.transfer k a).flagT = (k || s.flagT) := by cases k <;> rfl
@[simp] theorem State.transfer_flagDS (s : State) (k : Bool) (a : Word) : (s.transfer k a).flagDS = s.flagDS := by cases k <;> rfl
@[simp] theorem State.transfer_flagDT (s : State) (k : Bool) (a : Word) : (s.transfer k a).flagDT = s.flagDT := by cases k <;> rfl
@[simp] theorem State.transfer_pending (s : State) (k : Bool) (a : Word) : (s.transfer k a).pending = s.pending := by cases k <;> rfl
@[simp] theorem State.transfer_sr (s : State) (k : Bool) (a : Word) : (s.transfer k a).sr = s.sr := by cases k <;> rfl
@[simp] theorem State.transfer_cause (s : State) (k : Bool) (a : Word) : (s.transfer k a).cause = s.cause := by cases k <;> rfl
@[simp] theorem State.transfer_epc (s : State) (k : Bool) (a : Word) : (s.transfer k a).epc = s.epc := by cases k <;> rfl
@[simp] theorem State.transfer_badVaddr (s : State) (k : Bool) (a : Word) : (s.transfer k a).badVaddr = s.badVaddr := by cases k <;> rfl
@[simp] theorem State.transfer_mem (s : State) (k : Bool) (a : Word) : (s.transfer k a).mem = s.mem := by cases k <;> rfl
@[simp] theorem State.transfer_iStat (s : State) (k : Bool) (a : Word) : (s.transfer k a).iStat = s.iStat := by cases k <;> rfl
@[simp] theorem State.transfer_iMask (s : State) (k : Bool) (a : Word) : (s.transfer k a).iMask = s.iMask := by cases k <;> rfl
@[simp] theorem State.transfer_cycles (s : State) (k : Bool) (a : Word) : (s.transfer k a).cycles = s.cycles := by cases k <;> rfl
@[simp] theorem State.transfer_queue (s : State) (k : Bool) (a : Word) : (s.transfer k a).queue = s.queue := by cases k <;> rfl
@[simp] theorem State.transfer_seq (s : State) (k : Bool) (a : Word) : (s.transfer k a).seq = s.seq := by cases k <;> rfl
@[simp] theorem State.transfer_nextWake (s : State) (k : Bool) (a : Word) : (s.transfer k a).nextWake = s.nextWake := by cases k <;> rfl
@[simp] theorem State.transfer_chans (s : State) (k : Bool) (a : Word) : (s.transfer k a).chans = s.chans := by cases k <;> rfl
@[simp] theorem State.transfer_dpcr (s : State) (k : Bool) (a : Word) : (s.transfer k a).dpcr = s.dpcr := by cases k <;> rfl
@[simp] theorem State.transfer_dicr (s : State) (k : Bool) (a : Word) : (s.transfer k a).dicr = s.dicr := by cases k <;> rfl
@[simp] theorem State.transfer_refusalMark (s : State) (k : Bool) (a : Word) : (s.transfer k a).refusalMark = s.refusalMark := by cases k <;> rfl
@[simp] theorem State.transfer_draws (s : State) (k : Bool) (a : Word) : (s.transfer k a).draws = s.draws := by cases k <;> rfl
@[simp] theorem State.transfer_script (s : State) (k : Bool) (a : Word) : (s.transfer k a).script = s.script := by cases k <;> rfl
@[simp] theorem State.transfer_extLog (s : State) (k : Bool) (a : Word) : (s.transfer k a).extLog = s.extLog := by cases k <;> rfl
@[simp] theorem State.transfer_cfg (s : State) (k : Bool) (a : Word) : (s.transfer k a).cfg = s.cfg := by cases k <;> rfl

/-! ### State.setHiLo -/

@[simp] theorem State.setHiLo_regs (s : State) (h l : Word) : (s.setHiLo h l).regs = s.regs := rfl
@[simp] theorem State.setHiLo_hi (s : State) (h l : Word) : (s.setHiLo h l).hi = h := rfl
@[simp] theorem State.setHiLo_lo (s : State) (h l : Word) : (s.setHiLo h l).lo = l := rfl
@[simp] theorem State.setHiLo_pc (s : State) (h l : Word) : (s.setHiLo h l).pc = s.pc := rfl
@[simp] theorem State.setHiLo_nextpc (s : State) (h l : Word) : (s.setHiLo h l).nextpc = s.nextpc := rfl
@[simp] theorem State.setHiLo_curpc (s : State) (h l : Word) : (s.setHiLo h l).curpc = s.curpc := rfl
@[simp] theorem State.setHiLo_flagB (s : State) (h l : Word) : (s.setHiLo h l).flagB = s.flagB := rfl
@[simp] theorem State.setHiLo_flagT (s : State) (h l : Word) : (s.setHiLo h l).flagT = s.flagT := rfl
@[simp] theorem State.setHiLo_flagDS (s : State) (h l : Word) : (s.setHiLo h l).flagDS = s.flagDS := rfl
@[simp] theorem State.setHiLo_flagDT (s : State) (h l : Word) : (s.setHiLo h l).flagDT = s.flagDT := rfl
@[simp] theorem State.setHiLo_pending (s : State) (h l : Word) : (s.setHiLo h l).pending = s.pending := rfl
@[simp] theorem State.setHiLo_sr (s : State) (h l : Word) : (s.setHiLo h l).sr = s.sr := rfl
@[simp] theorem State.setHiLo_cause (s : State) (h l : Word) : (s.setHiLo h l).cause = s.cause := rfl
@[simp] theorem State.setHiLo_epc (s : State) (h l : Word) : (s.setHiLo h l).epc = s.epc := rfl
@[simp] theorem State.setHiLo_badVaddr (s : State) (h l : Word) : (s.setHiLo h l).badVaddr = s.badVaddr := rfl
@[simp] theorem State.setHiLo_mem (s : State) (h l : Word) : (s.setHiLo h l).mem = s.mem := rfl
@[simp] theorem State.setHiLo_iStat (s : State) (h l : Word) : (s.setHiLo h l).iStat = s.iStat := rfl
@[simp] theorem State.setHiLo_iMask (s : State) (h l : Word) : (s.setHiLo h l).iMask = s.iMask := rfl
@[simp] theorem State.setHiLo_cycles (s : State) (h l : Word) : (s.setHiLo h l).cycles = s.cycles := rfl
@[simp] theorem State.setHiLo_queue (s : State) (h l : Word) : (s.setHiLo h l).queue = s.queue := rfl
@[simp] theorem State.setHiLo_seq (s : State) (h l : Word) : (s.setHiLo h l).seq = s.seq := rfl
@[simp] theorem State.setHiLo_nextWake (s : State) (h l : Word) : (s.setHiLo h l).nextWake = s.nextWake := rfl
@[simp] theorem State.setHiLo_chans (s : State) (h l : Word) : (s.setHiLo h l).chans = s.chans := rfl
@[simp] theorem State.setHiLo_dpcr (s : State) (h l : Word) : (s.setHiLo h l).dpcr = s.dpcr := rfl
@[simp] theorem State.setHiLo_dicr (s : State) (h l : Word) : (s.setHiLo h l).dicr = s.dicr := rfl
@[simp] theorem State.setHiLo_refusalMark (s : State) (h l : Word) : (s.setHiLo h l).refusalMark = s.refusalMark := rfl
@[simp] theorem State.setHiLo_draws (s : State) (h l : Word) : (s.setHiLo h l).draws = s.draws := rfl
@[simp] theorem State.setHiLo_script (s : State) (h l : Word) : (s.setHiLo h l).script = s.script := rfl
@[simp] theorem State.setHiLo_extLog (s : State) (h l : Word) : (s.setHiLo h l).extLog = s.extLog := rfl
@[simp] theorem State.setHiLo_cfg (s : State) (h l : Word) : (s.setHiLo h l).cfg = s.cfg := rfl

/-! ### State.setChannel -/

@[simp] theorem State.setChannel_regs (s : State) (n : Fin 7) (c : Channel) : (s.setChannel n c).regs = s.regs := rfl
@[simp] theorem State.setChannel_hi (s : State) (n : Fin 7) (c : Channel) : (s.setChannel n c).hi = s.hi := rfl
@[simp] theorem State.setChannel_lo (s : State) (n : Fin 7) (c : Channel) : (s.setChannel n c).lo = s.lo := rfl
@[simp] theorem State.setChannel_pc (s : State) (n : Fin 7) (c : Channel) : (s.setChannel n c).pc = s.pc := rfl
@[simp] theorem State.setChannel_nextpc (s : State) (n : Fin 7) (c : Channel) : (s.setChannel n c).nextpc = s.nextpc := rfl
@[simp] theorem State.setChannel_curpc (s : State) (n : Fin 7) (c : Channel) : (s.setChannel n c).curpc = s.curpc := rfl
@[simp] theorem State.setChannel_flagB (s : State) (n : Fin 7) (c : Channel) : (s.setChannel n c).flagB = s.flagB := rfl
@[simp] theorem State.setChannel_flagT (s : State) (n : Fin 7) (c : Channel) : (s.setChannel n c).flagT = s.flagT := rfl
@[simp] theorem State.setChannel_flagDS (s : State) (n : Fin 7) (c : Channel) : (s.setChannel n c).flagDS = s.flagDS := rfl
@[simp] theorem State.setChannel_flagDT (s : State) (n : Fin 7) (c : Channel) : (s.setChannel n c).flagDT = s.flagDT := rfl
@[simp] theorem State.setChannel_pending (s : State) (n : Fin 7) (c : Channel) : (s.setChannel n c).pending = s.pending := rfl
@[simp] theorem State.setChannel_sr (s : State) (n : Fin 7) (c : Channel) : (s.setChannel n c).sr = s.sr := rfl
@[simp] theorem State.setChannel_cause (s : State) (n : Fin 7) (c : Channel) : (s.setChannel n c).cause = s.cause := rfl
@[simp] theorem State.setChannel_epc (s : State) (n : Fin 7) (c : Channel) : (s.setChannel n c).epc = s.epc := rfl
@[simp] theorem State.setChannel_badVaddr (s : State) (n : Fin 7) (c : Channel) : (s.setChannel n c).badVaddr = s.badVaddr := rfl
@[simp] theorem State.setChannel_mem (s : State) (n : Fin 7) (c : Channel) : (s.setChannel n c).mem = s.mem := rfl
@[simp] theorem State.setChannel_iStat (s : State) (n : Fin 7) (c : Channel) : (s.setChannel n c).iStat = s.iStat := rfl
@[simp] theorem State.setChannel_iMask (s : State) (n : Fin 7) (c : Channel) : (s.setChannel n c).iMask = s.iMask := rfl
@[simp] theorem State.setChannel_cycles (s : State) (n : Fin 7) (c : Channel) : (s.setChannel n c).cycles = s.cycles := rfl
@[simp] theorem State.setChannel_queue (s : State) (n : Fin 7) (c : Channel) : (s.setChannel n c).queue = s.queue := rfl
@[simp] theorem State.setChannel_seq (s : State) (n : Fin 7) (c : Channel) : (s.setChannel n c).seq = s.seq := rfl
@[simp] theorem State.setChannel_nextWake (s : State) (n : Fin 7) (c : Channel) : (s.setChannel n c).nextWake = s.nextWake := rfl
@[simp] theorem State.setChannel_chans (s : State) (n : Fin 7) (c : Channel) : (s.setChannel n c).chans = s.chans.set n.val c n.isLt := rfl
@[simp] theorem State.setChannel_dpcr (s : State) (n : Fin 7) (c : Channel) : (s.setChannel n c).dpcr = s.dpcr := rfl
@[simp] theorem State.setChannel_dicr (s : State) (n : Fin 7) (c : Channel) : (s.setChannel n c).dicr = s.dicr := rfl
@[simp] theorem State.setChannel_refusalMark (s : State) (n : Fin 7) (c : Channel) : (s.setChannel n c).refusalMark = s.refusalMark := rfl
@[simp] theorem State.setChannel_draws (s : State) (n : Fin 7) (c : Channel) : (s.setChannel n c).draws = s.draws := rfl
@[simp] theorem State.setChannel_script (s : State) (n : Fin 7) (c : Channel) : (s.setChannel n c).script = s.script := rfl
@[simp] theorem State.setChannel_extLog (s : State) (n : Fin 7) (c : Channel) : (s.setChannel n c).extLog = s.extLog := rfl
@[simp] theorem State.setChannel_cfg (s : State) (n : Fin 7) (c : Channel) : (s.setChannel n c).cfg = s.cfg := rfl

/-! ### State.setRamWord -/

@[simp] theorem State.setRamWord_regs (s : State) (a v : Word) : (s.setRamWord a v).regs = s.regs := rfl
@[simp] theorem State.setRamWord_hi (s : State) (a v : Word) : (s.setRamWord a v).hi = s.hi := rfl
@[simp] theorem State.setRamWord_lo (s : State) (a v : Word) : (s.setRamWord a v).lo = s.lo := rfl
@[simp] theorem State.setRamWord_pc (s : State) (a v : Word) : (s.setRamWord a v).pc = s.pc := rfl
@[simp] theorem State.setRamWord_nextpc (s : State) (a v : Word) : (s.setRamWord a v).nextpc = s.nextpc := rfl
@[simp] theorem State.setRamWord_curpc (s : State) (a v : Word) : (s.setRamWord a v).curpc = s.curpc := rfl
@[simp] theorem State.setRamWord_flagB (s : State) (a v : Word) : (s.setRamWord a v).flagB = s.flagB := rfl
@[simp] theorem State.setRamWord_flagT (s : State) (a v : Word) : (s.setRamWord a v).flagT = s.flagT := rfl
@[simp] theorem State.setRamWord_flagDS (s : State) (a v : Word) : (s.setRamWord a v).flagDS = s.flagDS := rfl
@[simp] theorem State.setRamWord_flagDT (s : State) (a v : Word) : (s.setRamWord a v).flagDT = s.flagDT := rfl
@[simp] theorem State.setRamWord_pending (s : State) (a v : Word) : (s.setRamWord a v).pending = s.pending := rfl
@[simp] theorem State.setRamWord_sr (s : State) (a v : Word) : (s.setRamWord a v).sr = s.sr := rfl
@[simp] theorem State.setRamWord_cause (s : State) (a v : Word) : (s.setRamWord a v).cause = s.cause := rfl
@[simp] theorem State.setRamWord_epc (s : State) (a v : Word) : (s.setRamWord a v).epc = s.epc := rfl
@[simp] theorem State.setRamWord_badVaddr (s : State) (a v : Word) : (s.setRamWord a v).badVaddr = s.badVaddr := rfl
@[simp] theorem State.setRamWord_mem (s : State) (a v : Word) : (s.setRamWord a v).mem = Memory.writeVal s.mem (dmaOffset a) v .word := rfl
@[simp] theorem State.setRamWord_iStat (s : State) (a v : Word) : (s.setRamWord a v).iStat = s.iStat := rfl
@[simp] theorem State.setRamWord_iMask (s : State) (a v : Word) : (s.setRamWord a v).iMask = s.iMask := rfl
@[simp] theorem State.setRamWord_cycles (s : State) (a v : Word) : (s.setRamWord a v).cycles = s.cycles := rfl
@[simp] theorem State.setRamWord_queue (s : State) (a v : Word) : (s.setRamWord a v).queue = s.queue := rfl
@[simp] theorem State.setRamWord_seq (s : State) (a v : Word) : (s.setRamWord a v).seq = s.seq := rfl
@[simp] theorem State.setRamWord_nextWake (s : State) (a v : Word) : (s.setRamWord a v).nextWake = s.nextWake := rfl
@[simp] theorem State.setRamWord_chans (s : State) (a v : Word) : (s.setRamWord a v).chans = s.chans := rfl
@[simp] theorem State.setRamWord_dpcr (s : State) (a v : Word) : (s.setRamWord a v).dpcr = s.dpcr := rfl
@[simp] theorem State.setRamWord_dicr (s : State) (a v : Word) : (s.setRamWord a v).dicr = s.dicr := rfl
@[simp] theorem State.setRamWord_refusalMark (s : State) (a v : Word) : (s.setRamWord a v).refusalMark = s.refusalMark := rfl
@[simp] theorem State.setRamWord_draws (s : State) (a v : Word) : (s.setRamWord a v).draws = s.draws := rfl
@[simp] theorem State.setRamWord_script (s : State) (a v : Word) : (s.setRamWord a v).script = s.script := rfl
@[simp] theorem State.setRamWord_extLog (s : State) (a v : Word) : (s.setRamWord a v).extLog = s.extLog := rfl
@[simp] theorem State.setRamWord_cfg (s : State) (a v : Word) : (s.setRamWord a v).cfg = s.cfg := rfl

/-! ### State.dequeue -/

@[simp] theorem State.dequeue_regs (s : State) (e : Event) : (s.dequeue e).regs = s.regs := rfl
@[simp] theorem State.dequeue_hi (s : State) (e : Event) : (s.dequeue e).hi = s.hi := rfl
@[simp] theorem State.dequeue_lo (s : State) (e : Event) : (s.dequeue e).lo = s.lo := rfl
@[simp] theorem State.dequeue_pc (s : State) (e : Event) : (s.dequeue e).pc = s.pc := rfl
@[simp] theorem State.dequeue_nextpc (s : State) (e : Event) : (s.dequeue e).nextpc = s.nextpc := rfl
@[simp] theorem State.dequeue_curpc (s : State) (e : Event) : (s.dequeue e).curpc = s.curpc := rfl
@[simp] theorem State.dequeue_flagB (s : State) (e : Event) : (s.dequeue e).flagB = s.flagB := rfl
@[simp] theorem State.dequeue_flagT (s : State) (e : Event) : (s.dequeue e).flagT = s.flagT := rfl
@[simp] theorem State.dequeue_flagDS (s : State) (e : Event) : (s.dequeue e).flagDS = s.flagDS := rfl
@[simp] theorem State.dequeue_flagDT (s : State) (e : Event) : (s.dequeue e).flagDT = s.flagDT := rfl
@[simp] theorem State.dequeue_pending (s : State) (e : Event) : (s.dequeue e).pending = s.pending := rfl
@[simp] theorem State.dequeue_sr (s : State) (e : Event) : (s.dequeue e).sr = s.sr := rfl
@[simp] theorem State.dequeue_cause (s : State) (e : Event) : (s.dequeue e).cause = s.cause := rfl
@[simp] theorem State.dequeue_epc (s : State) (e : Event) : (s.dequeue e).epc = s.epc := rfl
@[simp] theorem State.dequeue_badVaddr (s : State) (e : Event) : (s.dequeue e).badVaddr = s.badVaddr := rfl
@[simp] theorem State.dequeue_mem (s : State) (e : Event) : (s.dequeue e).mem = s.mem := rfl
@[simp] theorem State.dequeue_iStat (s : State) (e : Event) : (s.dequeue e).iStat = s.iStat := rfl
@[simp] theorem State.dequeue_iMask (s : State) (e : Event) : (s.dequeue e).iMask = s.iMask := rfl
@[simp] theorem State.dequeue_cycles (s : State) (e : Event) : (s.dequeue e).cycles = s.cycles := rfl
@[simp] theorem State.dequeue_queue (s : State) (e : Event) : (s.dequeue e).queue = s.queue.erase e := rfl
@[simp] theorem State.dequeue_seq (s : State) (e : Event) : (s.dequeue e).seq = s.seq := rfl
@[simp] theorem State.dequeue_nextWake (s : State) (e : Event) : (s.dequeue e).nextWake = leastTarget (s.queue.erase e) := rfl
@[simp] theorem State.dequeue_chans (s : State) (e : Event) : (s.dequeue e).chans = s.chans := rfl
@[simp] theorem State.dequeue_dpcr (s : State) (e : Event) : (s.dequeue e).dpcr = s.dpcr := rfl
@[simp] theorem State.dequeue_dicr (s : State) (e : Event) : (s.dequeue e).dicr = s.dicr := rfl
@[simp] theorem State.dequeue_refusalMark (s : State) (e : Event) : (s.dequeue e).refusalMark = s.refusalMark := rfl
@[simp] theorem State.dequeue_draws (s : State) (e : Event) : (s.dequeue e).draws = s.draws := rfl
@[simp] theorem State.dequeue_script (s : State) (e : Event) : (s.dequeue e).script = s.script := rfl
@[simp] theorem State.dequeue_extLog (s : State) (e : Event) : (s.dequeue e).extLog = s.extLog := rfl
@[simp] theorem State.dequeue_cfg (s : State) (e : Event) : (s.dequeue e).cfg = s.cfg := rfl

end Sys2Proof.Machine
end

