-- ==== Sys2Proof/Laws/Keeps.lean ====
section
/-! SUPPORT. The induction over a step, packaged once: a property of states that every elementary change keeps is kept by every
instruction and by every step. A whole-machine claim is then the check of the elementary changes alone. -/

namespace Sys2Proof.Machine

/-- The elementary changes that a data access makes, and that each keeps a property: of the cycles, of the collaborators' record and
turns, of the queue, of the device registers and of memory. -/
structure BusKeeps (P : State → Prop) : Prop where
  charge : ∀ s n, P s → P (s.charge n)
  draw : ∀ s, P s → P s.draw.2
  setScript : ∀ s l, P s → P { s with script := l }
  record : ∀ s x, P s → P { s with extLog := x :: s.extLog }
  trigger : ∀ s n t, P s → triggerInterrupt n s = .ok t → P t
  schedule : ∀ s d p t, p ≠ .sentinel → P s → scheduleEvent d p s = .ok t → P t
  acknowledge : ∀ s v, P s → P { s with iStat := s.iStat &&& v }
  setMask : ∀ s v, P s → P { s with iMask := v }
  setChannel : ∀ s n c, P s → P (s.setChannel n c)
  setDpcr : ∀ s v, P s → P { s with dpcr := v }
  writeDicr : ∀ s v t, P s → updateMaster (dicrWritten s.dicr v) s = .ok t → P t
  completeDicr : ∀ s n t, P s → updateMaster (dicrCompleted n s.dicr) s = .ok t → P t
  /-- A store reaches RAM or the scratchpad, both below the boot ROM. -/
  store : ∀ s k v w, k + 4 ≤ Config.romBase → P s → P { s with mem := Memory.writeVal s.mem k v w }

/-- The elementary changes of the machine, and that each keeps a property. Every step is made of these (`step_keeps`). -/
structure Keeps (P : State → Prop) : Prop extends BusKeeps P where
  commit : ∀ s w l, P s → P (s.commit w l)
  startStep : ∀ s, P s → P s.startStep
  advance : ∀ s, P s → P s.advance
  enter : ∀ s c ba, P s → P (s.enter c ba)
  transfer : ∀ s k a, P s → P (s.transfer k a)
  setHiLo : ∀ s h l, P s → P (s.setHiLo h l)
  /-- RFE, and a write of SR by MTC0. -/
  setSr : ∀ s v, P s → P { s with sr := v }
  /-- A write of Cause by MTC0: bits 9:8 alone. -/
  writeCause : ∀ s v, P s → P (cop0Write 13#5 v s)
  dequeue : ∀ s e, s.dueEvent = some e → P s → P (s.dequeue e)
  rewake : ∀ s, P s → P { s with nextWake := leastTarget s.queue }

variable {P : State → Prop}

/-! ### The collaborators and the Scheduler -/

theorem runCall_keeps (h : BusKeeps P) {c : CollabCall} {s t : State} (hs : P s) (ht : runCall c s = .ok t) : P t := by
  cases c with
  | triggerInterrupt n => exact h.trigger _ _ _ hs ht
  | scheduleEvent d k => exact h.schedule _ _ _ _ (by simp) hs ht
  | scheduleInterrupt d n => exact h.schedule _ _ _ _ (by simp) hs ht

theorem runCalls_keeps (h : BusKeeps P) {cs : List CollabCall} {s t : State} (hs : P s) (ht : runCalls cs s = .ok t) : P t := by
  induction cs generalizing s with
  | nil => cases ht; exact hs
  | cons c cs ih =>
    simp only [runCalls] at ht
    split at ht
    · exact ih (runCall_keeps h hs ‹_›) ht
    · cases ht

theorem collaboratorTurn_keeps (h : BusKeeps P) {s t : State} (hs : P s) (ht : collaboratorTurn s = .ok t) : P t := by
  simp only [collaboratorTurn] at ht
  split at ht
  · cases ht; exact hs
  · exact runCalls_keeps h (h.setScript _ _ hs) ht

theorem fireEvent_keeps (h : Keeps P) {e : Event} {s t : State} (he : s.dueEvent = some e) (hs : P s)
    (ht : fireEvent e s = .next t) : P t := by
  simp only [fireEvent] at ht
  have hd := h.dequeue s e he hs
  split at ht <;> cases ht
  rename_i hf
  revert hf
  cases e.payload with
  | irq n => exact h.trigger _ _ _ hd
  | ext k => exact collaboratorTurn_keeps h.toBusKeeps hd
  | sentinel => intro hf; cases hf; exact hd

/-! ### The DMA controller -/

theorem portWrite_keeps (h : BusKeeps P) {n : Fin 7} {v : Word} {s t : State} (hs : P s) (ht : portWrite n v s = .ok t) : P t :=
  collaboratorTurn_keeps h (h.record _ _ hs) ht

theorem portRead_keeps (h : BusKeeps P) {n : Fin 7} {v : Word} {s t : State} (hs : P s) (ht : portRead n s = .ok (v, t)) : P t := by
  simp only [portRead] at ht
  split at ht <;> cases ht
  exact collaboratorTurn_keeps h (h.draw _ hs) ‹_›

theorem dmaOffset_lt (a : Word) : dmaOffset a < Config.ramSize := by
  simp only [dmaOffset, BitVec.toNat_and, Config.ramSize]
  exact Nat.lt_of_le_of_lt Nat.and_le_right (by decide)

theorem setRamWord_keeps (h : BusKeeps P) {s : State} (a v : Word) (hs : P s) : P (s.setRamWord a v) := by
  refine h.store _ _ _ _ ?_ hs
  have := dmaOffset_lt a
  simp only [Config.ramSize] at this
  simp only [Config.romBase]
  omega

theorem copyWord_keeps (h : BusKeeps P) {n : Fin 7} {b : Bool} {a : Word} {s t : State} (hs : P s)
    (ht : copyWord n b a s = .ok t) : P t := by
  simp only [copyWord] at ht
  split at ht
  · exact portWrite_keeps h hs ht
  · split at ht <;> cases ht
    exact setRamWord_keeps h _ _ (portRead_keeps h hs ‹_›)

theorem blockCopy_keeps (h : BusKeeps P) {n : Fin 7} {b d : Bool} {k : Nat} {a : Word} {s t : State} (hs : P s)
    (ht : blockCopy n b d k a s = .ok t) : P t := by
  induction k generalizing a s with
  | zero => cases ht; exact hs
  | succ k ih =>
    simp only [blockCopy] at ht
    split at ht
    · exact ih (copyWord_keeps h hs ‹_›) ht
    · cases ht

theorem orderingTable_keeps (h : BusKeeps P) {k : Nat} {a : Word} {s : State} (hs : P s) : P (orderingTable k a s) := by
  induction k generalizing a s with
  | zero => exact hs
  | succ k ih => exact ih (setRamWord_keeps h _ _ hs)

theorem sendPayload_keeps (h : BusKeeps P) {node : Word} {left k : Nat} {s t : State} (hs : P s)
    (ht : sendPayload node left k s = .ok t) : P t := by
  induction left generalizing k s with
  | zero => cases ht; exact hs
  | succ left ih =>
    simp only [sendPayload] at ht
    split at ht
    · exact ih (portWrite_keeps h hs ‹_›) ht
    · cases ht

theorem linkedList_keeps (h : BusKeeps P) {fuel : Nat} {seen : List Nat} {a : Word} {s t : State} (hs : P s)
    (ht : linkedList fuel seen a s = .ok t) : P t := by
  induction fuel generalizing seen a s with
  | zero => cases ht
  | succ fuel ih =>
    simp only [linkedList] at ht
    split at ht
    · cases ht
    · split at ht
      · cases ht
      · have hp := sendPayload_keeps h hs ‹_›
        split at ht
        · cases ht; exact hp
        · exact ih hp ht

theorem runChannel_keeps (h : BusKeeps P) {n : Fin 7} {s t : State} (hs : P s) (ht : runChannel n s = .ok t) : P t := by
  simp only [runChannel] at ht
  split at ht
  · split at ht
    · cases ht; exact orderingTable_keeps h hs
    · exact blockCopy_keeps h hs ht
  · split at ht
    · exact linkedList_keeps h hs ht
    · cases ht

theorem channelPass_keeps (h : BusKeeps P) {n : Fin 7} {s t : State} (hs : P s) (ht : channelPass n s = .ok t) : P t := by
  simp only [channelPass] at ht
  split at ht
  · split at ht
    · exact h.completeDicr _ _ _ (h.setChannel _ _ _ (runChannel_keeps h hs ‹_›)) ht
    · cases ht
  · cases ht; exact hs

theorem channelPasses_keeps (h : BusKeeps P) {ns : List (Fin 7)} {s t : State} (hs : P s)
    (ht : channelPasses ns s = .ok t) : P t := by
  induction ns generalizing s with
  | nil => cases ht; exact hs
  | cons n ns ih =>
    simp only [channelPasses] at ht
    split at ht
    · exact ih (channelPass_keeps h hs ‹_›) ht
    · cases ht

theorem dmaWrite_keeps (h : BusKeeps P) {o : Nat} {w : Width} {v : Word} {s t : State} (hs : P s)
    (ht : dmaWrite o w v s = .ok t) : P t := by
  simp only [dmaWrite] at ht
  split at ht
  · simp only [dmaRegWrite] at ht
    split at ht
    · cases ht; exact h.setChannel _ _ _ hs
    · cases ht; exact h.setChannel _ _ _ hs
    · exact channelPasses_keeps h (h.setChannel _ _ _ hs) ht
    · cases ht; exact h.setDpcr _ _ hs
    · exact h.writeDicr _ _ _ hs ht
    · cases ht; exact hs
  · cases ht

/-! ### The Bus -/

theorem irqWrite_keeps (h : BusKeeps P) {o : Nat} {w : Width} {v : Word} {s t : State} (hs : P s)
    (ht : irqWrite o w v s = .ok t) : P t := by
  simp only [irqWrite] at ht
  split at ht
  · cases ht
  · split at ht
    · cases ht; exact h.acknowledge _ _ hs
    · split at ht <;> cases ht
      · exact h.setMask _ _ hs
      · exact hs

theorem readRegion_keeps (h : BusKeeps P) {r : Region} {w : Width} {v : Word} {s t : State} (hs : P s)
    (ht : readRegion r w s = .ok (v, t)) : P t := by
  cases r with
  | ram o => cases ht; exact hs
  | scratch o => cases ht; exact hs
  | rom o => cases ht; exact h.charge _ _ hs
  | irqCtl o =>
    simp only [readRegion] at ht
    cases hi : irqRead o w s <;> rw [hi] at ht <;> cases ht
    exact hs
  | dmaReg o =>
    simp only [readRegion] at ht
    cases hi : dmaRead o w s <;> rw [hi] at ht <;> cases ht
    exact hs
  | ext name o =>
    simp only [readRegion, extRead] at ht
    split at ht <;> cases ht
    exact collaboratorTurn_keeps h (h.record _ _ (h.draw _ hs)) ‹_›
  | unmapped => cases ht; exact hs

theorem inWindow_iff (p base size : Nat) : inWindow p base size = true ↔ base ≤ p ∧ p < base + size := by
  simp [inWindow]

/-- Where a resolved RAM or scratchpad offset lies: below the boot ROM, with room for a word. -/
theorem resolve_place {cfg : Config} {a : Word} {r : Region} {k : Nat} (hr : resolve cfg a = .ok r)
    (hk : r.ramOrScratch = some k) : k + 4 ≤ Config.romBase := by
  simp only [resolve] at hr
  split at hr
  · cases hr; cases hk
    have := Nat.mod_lt (phys a) (show 0 < Config.ramSize by decide)
    simp only [Config.ramSize] at this
    simp only [Config.ramSize, Config.romBase]; omega
  · split at hr
    · cases hr; cases hk
    · split at hr
      · split at hr <;> cases hr
        simp only [Region.ramOrScratch, Option.some.injEq] at hk
        subst hk
        rename_i hs _
        rw [inWindow_iff] at hs
        simp only [Config.scratchBase, Config.scratchSize, Config.romBase] at hs ⊢; omega
      · split at hr
        · cases hr; cases hk
        · split at hr
          · cases hr; cases hk
          · split at hr <;> cases hr <;> cases hk

theorem writeRegion_keeps (h : BusKeeps P) {cfg : Config} {a : Word} {r : Region} {w : Width} {v : Word} {s t : State}
    (hr : resolve cfg a = .ok r) (hs : P s) (ht : writeRegion r w v s = .ok t) : P t := by
  cases r with
  | ram o => cases ht; exact h.store _ _ _ _ (resolve_place hr (k := o) rfl) hs
  | scratch o =>
    have hk : (Region.scratch o).ramOrScratch = some (Config.scratchBase + o) := by simp only [Region.ramOrScratch]
    cases ht; exact h.store _ _ _ _ (resolve_place hr hk) hs
  | rom o => cases ht; exact h.charge _ _ hs
  | irqCtl o => exact irqWrite_keeps h hs ht
  | dmaReg o => exact dmaWrite_keeps h hs ht
  | ext name o => exact collaboratorTurn_keeps h (h.record _ _ hs) ht
  | unmapped => cases ht; exact hs

theorem memRead_keeps (h : BusKeeps P) {a : Word} {w : Width} {v : Word} {s t : State} (hs : P s)
    (ht : memRead a w s = .ok (v, t)) : P t := by
  simp only [memRead] at ht
  split at ht
  · cases ht; exact h.charge _ _ hs
  · split at ht
    · exact readRegion_keeps h (h.charge _ _ hs) ht
    · cases ht

theorem memWrite_keeps (h : BusKeeps P) {a : Word} {w : Width} {v : Word} {s t : State} (hs : P s)
    (ht : memWrite a w v s = .ok t) : P t := by
  simp only [memWrite] at ht
  split at ht
  · cases ht; exact h.charge _ _ hs
  · split at ht
    · exact writeRegion_keeps h ‹_› (h.charge _ _ hs) ht
    · cases ht

theorem storePartial_keeps (h : BusKeeps P) {a : Word} {f : Word → Word} {s t : State} (hs : P s)
    (ht : storePartial a f s = .ok t) : P t := by
  simp only [storePartial] at ht
  split at ht
  · cases ht; exact h.charge _ _ hs
  · split at ht
    · cases ht
    · split at ht <;> cases ht
      exact h.store _ _ _ _ (resolve_place ‹_› ‹_›) (h.charge _ _ hs)

/-! ### The shapes of the meanings -/

theorem finish_keeps (h : Keeps P) {s t : State} (hs : P s) (ht : finish s = .next t) : P t := by
  cases ht; exact h.commit _ _ _ hs

theorem writeBack_keeps (h : Keeps P) {r : Reg} {v : Word} {s t : State} (hs : P s) (ht : writeBack r v s = .next t) : P t := by
  cases ht; exact h.commit _ _ _ hs

theorem delayLoad_keeps (h : Keeps P) {r : Reg} {v : Word} {s t : State} (hs : P s) (ht : delayLoad r v s = .next t) : P t := by
  cases ht; exact h.commit _ _ _ hs

theorem raiseAt_keeps (h : Keeps P) {c : Exc} {ba : Word} {s t : State} (hs : P s) (ht : raiseAt c ba s = .next t) : P t :=
  finish_keeps h (h.enter _ _ _ hs) ht

theorem raise_keeps (h : Keeps P) {c : Exc} {s t : State} (hs : P s) (ht : raise c s = .next t) : P t :=
  raiseAt_keeps h hs ht

theorem addTrapping_keeps (h : Keeps P) {r : Reg} {a b : Word} {s t : State} (hs : P s)
    (ht : addTrapping r a b s = .next t) : P t := by
  simp only [addTrapping] at ht
  split at ht
  · exact raise_keeps h hs ht
  · exact writeBack_keeps h hs ht

theorem branch_keeps (h : Keeps P) {k : Bool} {a : Word} {s t : State} (hs : P s) (ht : branch k a s = .next t) : P t :=
  finish_keeps h (h.transfer _ _ _ hs) ht

theorem branchLink_keeps (h : Keeps P) {r : Reg} {k : Bool} {a : Word} {s t : State} (hs : P s)
    (ht : branchLink r k a s = .next t) : P t :=
  writeBack_keeps h (h.transfer _ _ _ hs) ht

theorem load_keeps (h : Keeps P) {w : Width} {f : Word → Word} {r : Reg} {a : Word} {s t : State} (hs : P s)
    (ht : load w f r a s = .next t) : P t := by
  simp only [load] at ht
  split at ht
  · split at ht
    · exact delayLoad_keeps h (memRead_keeps h.toBusKeeps hs ‹_›) ht
    · cases ht
  · exact raiseAt_keeps h hs ht

theorem loadPartial_keeps (h : Keeps P) {f : BitVec 2 → Word → Word → Word} {r : Reg} {a : Word} {s t : State} (hs : P s)
    (ht : loadPartial f r a s = .next t) : P t := by
  simp only [loadPartial] at ht
  split at ht
  · exact delayLoad_keeps h (memRead_keeps h.toBusKeeps hs ‹_›) ht
  · cases ht

theorem store_keeps (h : Keeps P) {w : Width} {r : Reg} {a : Word} {s t : State} (hs : P s)
    (ht : store w r a s = .next t) : P t := by
  simp only [store] at ht
  split at ht
  · split at ht
    · exact finish_keeps h (memWrite_keeps h.toBusKeeps hs ‹_›) ht
    · cases ht
  · exact raiseAt_keeps h hs ht

theorem storeMerged_keeps (h : Keeps P) {f : BitVec 2 → Word → Word → Word} {r : Reg} {a : Word} {s t : State} (hs : P s)
    (ht : storeMerged f r a s = .next t) : P t := by
  simp only [storeMerged] at ht
  split at ht
  · exact finish_keeps h (storePartial_keeps h.toBusKeeps hs ‹_›) ht
  · cases ht

theorem cop0Read_keeps (h : Keeps P) (n : Reg) {s : State} (hs : P s) : P (cop0Read n s).2 := by
  simp only [cop0Read]
  split <;> first | exact hs | exact h.draw _ hs

theorem cop0Write_keeps (h : Keeps P) (n : Reg) (v : Word) {s : State} (hs : P s) : P (cop0Write n v s) := by
  unfold cop0Write
  split
  · exact h.setSr _ _ hs
  · exact h.writeCause _ _ hs
  · exact hs

theorem cop2Word_keeps (h : Keeps P) {s t : State} (hs : P s) (ht : cop2Word s = .next t) : P t := by
  simp only [cop2Word] at ht
  split at ht
  · cases ht
  · exact finish_keeps h hs ht

/-! ### Every instruction, and every step -/

theorem sub_keeps (h : Keeps P) {rd rs rt : Reg} {s t : State} (hs : P s) (ht : execSub rd rs rt s = .next t) : P t := by
  simp only [execSub] at ht
  split at ht
  · exact raise_keeps h hs ht
  · exact writeBack_keeps h hs ht

theorem exec_keeps (h : Keeps P) {i : Instr} {s t : State} (hs : P s) (ht : exec i s = .next t) : P t := by
  cases i with
  | sll _ _ _ => exact writeBack_keeps h hs ht
  | srl _ _ _ => exact writeBack_keeps h hs ht
  | sra _ _ _ => exact writeBack_keeps h hs ht
  | sllv _ _ _ => exact writeBack_keeps h hs ht
  | srlv _ _ _ => exact writeBack_keeps h hs ht
  | srav _ _ _ => exact writeBack_keeps h hs ht
  | jr _ => exact branch_keeps h hs ht
  | jalr _ _ => exact branchLink_keeps h hs ht
  | syscall _ => exact raise_keeps h hs ht
  | brk _ => exact raise_keeps h hs ht
  | mfhi _ => exact writeBack_keeps h hs ht
  | mthi rs => exact finish_keeps h (h.setHiLo s (s.readReg rs) s.lo hs) ht
  | mflo _ => exact writeBack_keeps h hs ht
  | mtlo rs => exact finish_keeps h (h.setHiLo s s.hi (s.readReg rs) hs) ht
  | mult _ _ => exact finish_keeps h (h.setHiLo _ _ _ hs) ht
  | multu _ _ => exact finish_keeps h (h.setHiLo _ _ _ hs) ht
  | div _ _ => exact finish_keeps h (h.setHiLo _ _ _ hs) ht
  | divu _ _ => exact finish_keeps h (h.setHiLo _ _ _ hs) ht
  | add _ _ _ => exact addTrapping_keeps h hs ht
  | addu _ _ _ => exact writeBack_keeps h hs ht
  | sub _ _ _ => exact sub_keeps h hs ht
  | subu _ _ _ => exact writeBack_keeps h hs ht
  | and _ _ _ => exact writeBack_keeps h hs ht
  | or _ _ _ => exact writeBack_keeps h hs ht
  | xor _ _ _ => exact writeBack_keeps h hs ht
  | nor _ _ _ => exact writeBack_keeps h hs ht
  | slt _ _ _ => exact writeBack_keeps h hs ht
  | sltu _ _ _ => exact writeBack_keeps h hs ht
  | bltz _ _ => exact branch_keeps h hs ht
  | bgez _ _ => exact branch_keeps h hs ht
  | bltzal _ _ => exact branchLink_keeps h hs ht
  | bgezal _ _ => exact branchLink_keeps h hs ht
  | bltzRt02 _ _ => exact branch_keeps h hs ht
  | bgezRt03 _ _ => exact branch_keeps h hs ht
  | bltzRt04 _ _ => exact branch_keeps h hs ht
  | bgezRt05 _ _ => exact branch_keeps h hs ht
  | bltzRt06 _ _ => exact branch_keeps h hs ht
  | bgezRt07 _ _ => exact branch_keeps h hs ht
  | bltzRt08 _ _ => exact branch_keeps h hs ht
  | bgezRt09 _ _ => exact branch_keeps h hs ht
  | bltzRt0A _ _ => exact branch_keeps h hs ht
  | bgezRt0B _ _ => exact branch_keeps h hs ht
  | bltzRt0C _ _ => exact branch_keeps h hs ht
  | bgezRt0D _ _ => exact branch_keeps h hs ht
  | bltzRt0E _ _ => exact branch_keeps h hs ht
  | bgezRt0F _ _ => exact branch_keeps h hs ht
  | bltzRt12 _ _ => exact branch_keeps h hs ht
  | bgezRt13 _ _ => exact branch_keeps h hs ht
  | bltzRt14 _ _ => exact branch_keeps h hs ht
  | bgezRt15 _ _ => exact branch_keeps h hs ht
  | bltzRt16 _ _ => exact branch_keeps h hs ht
  | bgezRt17 _ _ => exact branch_keeps h hs ht
  | bltzRt18 _ _ => exact branch_keeps h hs ht
  | bgezRt19 _ _ => exact branch_keeps h hs ht
  | bltzRt1A _ _ => exact branch_keeps h hs ht
  | bgezRt1B _ _ => exact branch_keeps h hs ht
  | bltzRt1C _ _ => exact branch_keeps h hs ht
  | bgezRt1D _ _ => exact branch_keeps h hs ht
  | bltzRt1E _ _ => exact branch_keeps h hs ht
  | bgezRt1F _ _ => exact branch_keeps h hs ht
  | j _ => exact branch_keeps h hs ht
  | jal _ => exact branchLink_keeps h hs ht
  | beq _ _ _ => exact branch_keeps h hs ht
  | bne _ _ _ => exact branch_keeps h hs ht
  | blez _ _ => exact branch_keeps h hs ht
  | bgtz _ _ => exact branch_keeps h hs ht
  | addi _ _ _ => exact addTrapping_keeps h hs ht
  | addiu _ _ _ => exact writeBack_keeps h hs ht
  | slti _ _ _ => exact writeBack_keeps h hs ht
  | sltiu _ _ _ => exact writeBack_keeps h hs ht
  | andi _ _ _ => exact writeBack_keeps h hs ht
  | ori _ _ _ => exact writeBack_keeps h hs ht
  | xori _ _ _ => exact writeBack_keeps h hs ht
  | lui _ _ => exact writeBack_keeps h hs ht
  | lb rt rs imm => exact load_keeps (w := .byte) (f := sextByte) (r := rt) (a := s.ea rs imm) h hs ht
  | lh _ _ _ => exact load_keeps h hs ht
  | lwl _ _ _ => exact loadPartial_keeps h hs ht
  | lw _ _ _ => exact load_keeps h hs ht
  | lbu rt rs imm => exact load_keeps (w := .byte) (f := id) (r := rt) (a := s.ea rs imm) h hs ht
  | lhu _ _ _ => exact load_keeps h hs ht
  | lwr _ _ _ => exact loadPartial_keeps h hs ht
  | sb rt rs imm => exact store_keeps (w := .byte) (r := rt) (a := s.ea rs imm) h hs ht
  | sh _ _ _ => exact store_keeps h hs ht
  | swl _ _ _ => exact storeMerged_keeps h hs ht
  | sw _ _ _ => exact store_keeps h hs ht
  | swr _ _ _ => exact storeMerged_keeps h hs ht
  | mfc0 _ _ => exact delayLoad_keeps h (cop0Read_keeps h _ hs) ht
  | mtc0 _ _ => exact finish_keeps h (cop0Write_keeps h _ _ hs) ht
  | rfe => exact finish_keeps h (h.setSr _ _ hs) ht
  | cop2 _ => exact cop2Word_keeps h hs ht
  | lwc2 _ _ _ => exact cop2Word_keeps h hs ht
  | swc2 _ _ _ => exact cop2Word_keeps h hs ht
  | resOp11 => exact raise_keeps h hs ht
  | resOp13 => exact raise_keeps h hs ht
  | resOp14 => exact raise_keeps h hs ht
  | resOp15 => exact raise_keeps h hs ht
  | resOp16 => exact raise_keeps h hs ht
  | resOp17 => exact raise_keeps h hs ht
  | resOp18 => exact raise_keeps h hs ht
  | resOp19 => exact raise_keeps h hs ht
  | resOp1A => exact raise_keeps h hs ht
  | resOp1B => exact raise_keeps h hs ht
  | resOp1C => exact raise_keeps h hs ht
  | resOp1D => exact raise_keeps h hs ht
  | resOp1E => exact raise_keeps h hs ht
  | resOp1F => exact raise_keeps h hs ht
  | resOp27 => exact raise_keeps h hs ht
  | resOp2C => exact raise_keeps h hs ht
  | resOp2D => exact raise_keeps h hs ht
  | resOp2F => exact raise_keeps h hs ht
  | resOp30 => exact raise_keeps h hs ht
  | resOp31 => exact raise_keeps h hs ht
  | resOp33 => exact raise_keeps h hs ht
  | resOp34 => exact raise_keeps h hs ht
  | resOp35 => exact raise_keeps h hs ht
  | resOp36 => exact raise_keeps h hs ht
  | resOp37 => exact raise_keeps h hs ht
  | resOp38 => exact raise_keeps h hs ht
  | resOp39 => exact raise_keeps h hs ht
  | resOp3B => exact raise_keeps h hs ht
  | resOp3C => exact raise_keeps h hs ht
  | resOp3D => exact raise_keeps h hs ht
  | resOp3E => exact raise_keeps h hs ht
  | resOp3F => exact raise_keeps h hs ht
  | resFunct01 => exact raise_keeps h hs ht
  | resFunct05 => exact raise_keeps h hs ht
  | resFunct0A => exact raise_keeps h hs ht
  | resFunct0B => exact raise_keeps h hs ht
  | resFunct0E => exact raise_keeps h hs ht
  | resFunct0F => exact raise_keeps h hs ht
  | resFunct14 => exact raise_keeps h hs ht
  | resFunct15 => exact raise_keeps h hs ht
  | resFunct16 => exact raise_keeps h hs ht
  | resFunct17 => exact raise_keeps h hs ht
  | resFunct1C => exact raise_keeps h hs ht
  | resFunct1D => exact raise_keeps h hs ht
  | resFunct1E => exact raise_keeps h hs ht
  | resFunct1F => exact raise_keeps h hs ht
  | resFunct28 => exact raise_keeps h hs ht
  | resFunct29 => exact raise_keeps h hs ht
  | resFunct2C => exact raise_keeps h hs ht
  | resFunct2D => exact raise_keeps h hs ht
  | resFunct2E => exact raise_keeps h hs ht
  | resFunct2F => exact raise_keeps h hs ht
  | resFunct30 => exact raise_keeps h hs ht
  | resFunct31 => exact raise_keeps h hs ht
  | resFunct32 => exact raise_keeps h hs ht
  | resFunct33 => exact raise_keeps h hs ht
  | resFunct34 => exact raise_keeps h hs ht
  | resFunct35 => exact raise_keeps h hs ht
  | resFunct36 => exact raise_keeps h hs ht
  | resFunct37 => exact raise_keeps h hs ht
  | resFunct38 => exact raise_keeps h hs ht
  | resFunct39 => exact raise_keeps h hs ht
  | resFunct3A => exact raise_keeps h hs ht
  | resFunct3B => exact raise_keeps h hs ht
  | resFunct3C => exact raise_keeps h hs ht
  | resFunct3D => exact raise_keeps h hs ht
  | resFunct3E => exact raise_keeps h hs ht
  | resFunct3F => exact raise_keeps h hs ht
  | resCop0Rs01 => exact raise_keeps h hs ht
  | resCop0Rs02 => exact raise_keeps h hs ht
  | resCop0Rs03 => exact raise_keeps h hs ht
  | resCop0Rs05 => exact raise_keeps h hs ht
  | resCop0Rs06 => exact raise_keeps h hs ht
  | resCop0Rs07 => exact raise_keeps h hs ht
  | resCop0Rs08 => exact raise_keeps h hs ht
  | resCop0Rs09 => exact raise_keeps h hs ht
  | resCop0Rs0A => exact raise_keeps h hs ht
  | resCop0Rs0B => exact raise_keeps h hs ht
  | resCop0Rs0C => exact raise_keeps h hs ht
  | resCop0Rs0D => exact raise_keeps h hs ht
  | resCop0Rs0E => exact raise_keeps h hs ht
  | resCop0Rs0F => exact raise_keeps h hs ht
  | resCop0Co00 => exact raise_keeps h hs ht
  | resCop0Co01 => exact raise_keeps h hs ht
  | resCop0Co02 => exact raise_keeps h hs ht
  | resCop0Co03 => exact raise_keeps h hs ht
  | resCop0Co04 => exact raise_keeps h hs ht
  | resCop0Co05 => exact raise_keeps h hs ht
  | resCop0Co06 => exact raise_keeps h hs ht
  | resCop0Co07 => exact raise_keeps h hs ht
  | resCop0Co08 => exact raise_keeps h hs ht
  | resCop0Co09 => exact raise_keeps h hs ht
  | resCop0Co0A => exact raise_keeps h hs ht
  | resCop0Co0B => exact raise_keeps h hs ht
  | resCop0Co0C => exact raise_keeps h hs ht
  | resCop0Co0D => exact raise_keeps h hs ht
  | resCop0Co0E => exact raise_keeps h hs ht
  | resCop0Co0F => exact raise_keeps h hs ht
  | resCop0Co11 => exact raise_keeps h hs ht
  | resCop0Co12 => exact raise_keeps h hs ht
  | resCop0Co13 => exact raise_keeps h hs ht
  | resCop0Co14 => exact raise_keeps h hs ht
  | resCop0Co15 => exact raise_keeps h hs ht
  | resCop0Co16 => exact raise_keeps h hs ht
  | resCop0Co17 => exact raise_keeps h hs ht
  | resCop0Co18 => exact raise_keeps h hs ht
  | resCop0Co19 => exact raise_keeps h hs ht
  | resCop0Co1A => exact raise_keeps h hs ht
  | resCop0Co1B => exact raise_keeps h hs ht
  | resCop0Co1C => exact raise_keeps h hs ht
  | resCop0Co1D => exact raise_keeps h hs ht
  | resCop0Co1E => exact raise_keeps h hs ht
  | resCop0Co1F => exact raise_keeps h hs ht
  | resCop0Co20 => exact raise_keeps h hs ht
  | resCop0Co21 => exact raise_keeps h hs ht
  | resCop0Co22 => exact raise_keeps h hs ht
  | resCop0Co23 => exact raise_keeps h hs ht
  | resCop0Co24 => exact raise_keeps h hs ht
  | resCop0Co25 => exact raise_keeps h hs ht
  | resCop0Co26 => exact raise_keeps h hs ht
  | resCop0Co27 => exact raise_keeps h hs ht
  | resCop0Co28 => exact raise_keeps h hs ht
  | resCop0Co29 => exact raise_keeps h hs ht
  | resCop0Co2A => exact raise_keeps h hs ht
  | resCop0Co2B => exact raise_keeps h hs ht
  | resCop0Co2C => exact raise_keeps h hs ht
  | resCop0Co2D => exact raise_keeps h hs ht
  | resCop0Co2E => exact raise_keeps h hs ht
  | resCop0Co2F => exact raise_keeps h hs ht
  | resCop0Co30 => exact raise_keeps h hs ht
  | resCop0Co31 => exact raise_keeps h hs ht
  | resCop0Co32 => exact raise_keeps h hs ht
  | resCop0Co33 => exact raise_keeps h hs ht
  | resCop0Co34 => exact raise_keeps h hs ht
  | resCop0Co35 => exact raise_keeps h hs ht
  | resCop0Co36 => exact raise_keeps h hs ht
  | resCop0Co37 => exact raise_keeps h hs ht
  | resCop0Co38 => exact raise_keeps h hs ht
  | resCop0Co39 => exact raise_keeps h hs ht
  | resCop0Co3A => exact raise_keeps h hs ht
  | resCop0Co3B => exact raise_keeps h hs ht
  | resCop0Co3C => exact raise_keeps h hs ht
  | resCop0Co3D => exact raise_keeps h hs ht
  | resCop0Co3E => exact raise_keeps h hs ht
  | resCop0Co3F => exact raise_keeps h hs ht

theorem endStep_keeps (h : Keeps P) {s : State} (hs : P s) : P s.endStep := by
  refine h.charge _ _ ?_
  simp only [State.poll]
  split
  · exact h.enter _ _ _ hs
  · exact hs

theorem thenEndStep_keeps (h : Keeps P) {r : Result} {t : State} (hr : ∀ u, r = .next u → P u)
    (ht : thenEndStep r = .next t) : P t := by
  cases r with
  | next u => cases ht; exact endStep_keeps h (hr u rfl)
  | fault f => cases ht
  | refused f => cases ht

theorem cpuStep_keeps (h : Keeps P) {s t : State} (hs : P s) (ht : cpuStep s = .next t) : P t := by
  have h0 := h.startStep s hs
  simp only [cpuStep] at ht
  split at ht
  · split at ht
    · rename_i hf
      refine thenEndStep_keeps h (fun u hu => exec_keeps h (h.advance _ ?_) hu) ht
      simp only [fetchInstr] at hf
      split at hf <;> cases hf
      exact h.charge _ _ h0
    · cases ht
  · exact thenEndStep_keeps h (fun u hu => raiseAt_keeps h h0 hu) ht

/-- The induction over a step: a property that every elementary change keeps is kept by the step. -/
theorem step_keeps (h : Keeps P) {s t : State} (hs : P s) (ht : step s = .next t) : P t := by
  simp only [step, driverMove] at ht
  split at ht
  · cases ht
  · split at ht
    · exact cpuStep_keeps h hs ht
    · split at ht
      · exact fireEvent_keeps h ‹_› hs ht
      · exact cpuStep_keeps h (h.rewake _ hs) ht

end Sys2Proof.Machine
end

