-- ==== Sys2Proof/Laws/Bus.lean ====
section
/-! SUPPORT. The Bus: what `resolve` answers in each window of physical addresses under a well-formed configuration, alignment as a
remainder, and the value of an access as the number of its bytes. -/

namespace Sys2Proof.Machine

/-- An address is aligned to a width exactly when it is a multiple of it (20_memory R130). -/
theorem aligned_iff (w : Width) (a : Word) : aligned w a = true ↔ alignedTo w a := by
  cases w
  · simp [aligned, alignedTo, Width.bytes]; omega
  · simp only [aligned, alignedTo, Width.bytes]
    have : a.getLsbD 0 = decide (a.toNat % 2 = 1) := by rw [BitVec.getLsbD, Nat.testBit_zero]
    rw [this]; simp
  · simp only [aligned, alignedTo, Width.bytes, beq_iff_eq]
    have hn : (lowBits a).toNat = a.toNat % 4 := by simp [lowBits, BitVec.extractLsb'_toNat]
    exact ⟨fun h => by rw [← hn, h]; rfl, fun h => BitVec.eq_of_toNat_eq (hn.trans h)⟩

/-- The aligned word's address, by number. -/
theorem alignedWord_eq (a : Word) : alignedWord a = BitVec.ofNat 32 (a.toNat / 4 * 4) := by
  have h : a.toNat / 4 * 4 = ((a.toNat >>> 2) <<< 2) := by rw [Nat.shiftRight_eq_div_pow, Nat.shiftLeft_eq]
  rw [h]
  apply BitVec.eq_of_getLsbD_eq
  intro i hi
  simp only [alignedWord, BitVec.getLsbD_and, BitVec.getLsbD_ofNat, Nat.testBit_shiftLeft, Nat.testBit_shiftRight]
  have m : Nat.testBit 0xFFFFFFFC i = decide (2 ≤ i) := by interval_cases i <;> decide
  rw [m]
  by_cases h2 : 2 ≤ i
  · simp [hi, h2, BitVec.getLsbD]
  · simp [h2]

/-- The segment KSEG1, by number (20_memory R102). -/
theorem segment_kseg1 (a : Word) : segmentOf a = 5#3 ↔ inKseg1 a := by
  have hs : (segmentOf a).toNat = a.toNat / 2 ^ 29 := by
    have := a.isLt
    simp only [segmentOf, BitVec.extractLsb'_toNat, Nat.shiftRight_eq_div_pow]; omega
  have h5 : segmentOf a = 5#3 ↔ a.toNat / 2 ^ 29 = 5 := by
    rw [← hs]; exact ⟨fun h => by rw [h]; rfl, fun h => BitVec.eq_of_toNat_eq h⟩
  rw [h5]; unfold inKseg1; omega

/-! ### What a well-formed configuration says -/

theorem wf_ramWindow {c : Config} (h : c.wf = true) : c.ramWindow ≤ 0x1F800000 := by
  simp only [Config.wf, Bool.and_eq_true, decide_eq_true_eq] at h; exact h.1.1.2

/-- An address of an external range lies in no window of the core. -/
theorem wf_external {c : Config} (h : c.wf = true) {r : ExtRange} (hr : r ∈ c.externalRanges) {p : Nat} (h1 : r.base ≤ p)
    (h2 : p < r.base + r.size) :
    ¬ p < c.ramWindow ∧ ¬ (0x1F800000 ≤ p ∧ p ≤ 0x1F8003FF) ∧ ¬ (0x1F801070 ≤ p ∧ p ≤ 0x1F801077) ∧
      ¬ (0x1F801080 ≤ p ∧ p ≤ 0x1F8010FF) ∧ ¬ (0x1FC00000 ≤ p ∧ p ≤ 0x1FC7FFFF) := by
  simp only [Config.wf, Bool.and_eq_true, decide_eq_true_eq, List.all_eq_true] at h
  have := h.1.2 r hr
  simp only [ExtRange.apartFromCore, rangesApart, Bool.and_eq_true, Bool.or_eq_true, decide_eq_true_eq] at this
  simp only [Config.scratchBase, Config.scratchSize, Config.irqBase, Config.dmaBase, Config.romBase, Config.romSize] at this
  omega

theorem wf_disjoint {c : Config} (h : c.wf = true) : ExtRange.disjoint c.externalRanges = true := by
  simp only [Config.wf, Bool.and_eq_true] at h; exact h.2

/-- The range of a list of disjoint ranges that holds an address is the one found. -/
theorem findRange_some {p : Nat} {l : List ExtRange} {r : ExtRange} (hd : ExtRange.disjoint l = true) (hr : r ∈ l)
    (h : r.base ≤ p ∧ p < r.base + r.size) : findRange p l = some (r.name, p - r.base) := by
  induction l with
  | nil => cases hr
  | cons q l ih =>
    simp only [ExtRange.disjoint, Bool.and_eq_true, List.all_eq_true] at hd
    simp only [findRange]
    rcases List.mem_cons.1 hr with rfl | hr
    · rw [if_pos]; rw [inWindow_iff]; exact h
    · rw [if_neg]
      · exact ih hd.2 hr
      · rw [inWindow_iff]
        have := hd.1 r hr
        simp only [rangesApart, Bool.or_eq_true, decide_eq_true_eq] at this
        omega

theorem findRange_none {p : Nat} {l : List ExtRange} (h : ∀ r ∈ l, ¬ (r.base ≤ p ∧ p < r.base + r.size)) :
    findRange p l = none := by
  induction l with
  | nil => rfl
  | cons r l ih =>
    simp only [findRange]; rw [if_neg]
    · exact ih (fun q hq => h q (List.mem_cons_of_mem _ hq))
    · rw [inWindow_iff]; exact h r List.mem_cons_self

/-! ### `resolve`, window by window (20_memory R111) -/

variable {c : Config} {a : Word}

theorem resolve_ram (h : phys a < c.ramWindow) : resolve c a = .ok (.ram (phys a % 0x200000)) := by
  unfold resolve; dsimp only; rw [if_pos h]; rfl

theorem resolve_rom (hw : c.wf = true) (h : 0x1FC00000 ≤ phys a ∧ phys a ≤ 0x1FC7FFFF) :
    resolve c a = .ok (.rom (phys a - 0x1FC00000)) := by
  have := wf_ramWindow hw
  unfold resolve; dsimp only
  rw [if_neg (by omega), if_pos]
  · rfl
  · rw [inWindow_iff]; simp only [Config.romBase, Config.romSize]; omega

theorem resolve_scratch (hw : c.wf = true) (h : 0x1F800000 ≤ phys a ∧ phys a ≤ 0x1F8003FF) :
    resolve c a = if segmentOf a = 5#3 then .error .scratchpadThroughKseg1 else .ok (.scratch (phys a - 0x1F800000)) := by
  have := wf_ramWindow hw
  unfold resolve; dsimp only
  rw [if_neg (by omega), if_neg, if_pos]
  · rfl
  · rw [inWindow_iff]; simp only [Config.scratchBase, Config.scratchSize]; omega
  · rw [inWindow_iff]; simp only [Config.romBase, Config.romSize]; omega

theorem resolve_irq (hw : c.wf = true) (h : 0x1F801070 ≤ phys a ∧ phys a ≤ 0x1F801077) :
    resolve c a = .ok (.irqCtl (phys a - 0x1F801070)) := by
  have := wf_ramWindow hw
  unfold resolve; dsimp only
  rw [if_neg (by omega), if_neg, if_neg, if_pos]
  · rfl
  · rw [inWindow_iff]; simp only [Config.irqBase]; omega
  · rw [inWindow_iff]; simp only [Config.scratchBase, Config.scratchSize]; omega
  · rw [inWindow_iff]; simp only [Config.romBase, Config.romSize]; omega

theorem resolve_dma (hw : c.wf = true) (h : 0x1F801080 ≤ phys a ∧ phys a ≤ 0x1F8010FF) :
    resolve c a = .ok (.dmaReg (phys a - 0x1F801080)) := by
  have := wf_ramWindow hw
  unfold resolve; dsimp only
  rw [if_neg (by omega), if_neg, if_neg, if_neg, if_pos]
  · rfl
  · rw [inWindow_iff]; simp only [Config.dmaBase]; omega
  · rw [inWindow_iff]; simp only [Config.irqBase]; omega
  · rw [inWindow_iff]; simp only [Config.scratchBase, Config.scratchSize]; omega
  · rw [inWindow_iff]; simp only [Config.romBase, Config.romSize]; omega

/-- Outside the windows of the core, the external ranges decide. -/
theorem resolve_outside (h1 : ¬ phys a < c.ramWindow) (h2 : ¬ (0x1FC00000 ≤ phys a ∧ phys a ≤ 0x1FC7FFFF))
    (h3 : ¬ (0x1F800000 ≤ phys a ∧ phys a ≤ 0x1F8003FF)) (h4 : ¬ (0x1F801070 ≤ phys a ∧ phys a ≤ 0x1F801077))
    (h5 : ¬ (0x1F801080 ≤ phys a ∧ phys a ≤ 0x1F8010FF)) :
    resolve c a = match findRange (phys a) c.externalRanges with
      | some (name, o) => .ok (.ext name o)
      | none => .ok .unmapped := by
  have e2 : ¬ inWindow (phys a) Config.romBase Config.romSize = true := by
    rw [inWindow_iff]; simp only [Config.romBase, Config.romSize]; omega
  have e3 : ¬ inWindow (phys a) Config.scratchBase Config.scratchSize = true := by
    rw [inWindow_iff]; simp only [Config.scratchBase, Config.scratchSize]; omega
  have e4 : ¬ inWindow (phys a) Config.irqBase 8 = true := by rw [inWindow_iff]; simp only [Config.irqBase]; omega
  have e5 : ¬ inWindow (phys a) Config.dmaBase 128 = true := by rw [inWindow_iff]; simp only [Config.dmaBase]; omega
  exact (if_neg h1).trans ((if_neg e2).trans ((if_neg e3).trans ((if_neg e4).trans (if_neg e5))))

theorem resolve_external (hw : c.wf = true) {r : ExtRange} (hr : r ∈ c.externalRanges)
    (h : r.base ≤ phys a ∧ phys a < r.base + r.size) : resolve c a = .ok (.ext r.name (phys a - r.base)) := by
  obtain ⟨h1, h2, h3, h4, h5⟩ := wf_external hw hr h.1 h.2
  rw [resolve_outside h1 h5 h2 h3 h4, findRange_some (wf_disjoint hw) hr h]

/-! ### Values -/

/-- The value of an access is the little-endian number of its bytes (20_memory R101). -/
theorem readVal_toNat (m : Memory) (k : Nat) (w : Width) : (Memory.readVal m k w).toNat = leNat m k w.bytes := by
  have h0 := (Memory.read m k).isLt
  have h1 := (Memory.read m (k + 1)).isLt
  have h2 := (Memory.read m (k + 2)).isLt
  have h3 := (Memory.read m (k + 3)).isLt
  cases w <;> simp only [Memory.readVal, leNat, Width.bytes, wordOfBytes]
  · rw [BitVec.toNat_setWidth]; omega
  · rw [BitVec.toNat_setWidth, BitVec.toNat_append, ← Nat.shiftLeft_add_eq_or_of_lt h0, Nat.shiftLeft_eq]
    omega
  · show (Memory.read m (k + 3) ++ Memory.read m (k + 2) ++ Memory.read m (k + 1) ++ Memory.read m k :
      BitVec (8 + 8 + 8 + 8)).toNat = _
    rw [BitVec.toNat_append, ← Nat.shiftLeft_add_eq_or_of_lt h0, Nat.shiftLeft_eq, BitVec.toNat_append,
      ← Nat.shiftLeft_add_eq_or_of_lt h1, Nat.shiftLeft_eq, BitVec.toNat_append, ← Nat.shiftLeft_add_eq_or_of_lt h2,
      Nat.shiftLeft_eq]
    ring_nf

/-- The part of a value that an access moves, by number. -/
theorem trunc_toNat (w : Width) (v : Word) : (w.trunc v).toNat = v.toNat % 2 ^ (8 * w.bytes) := by
  cases w <;> simp [Width.trunc, Width.bytes, BitVec.extractLsb'_toNat]
  all_goals (have := v.isLt; omega)

/-- The number of some bytes of memory depends on those bytes alone. -/
theorem leNat_congr {m m' : Memory} {k n : Nat} (h : ∀ b, k ≤ b → b < k + n → Memory.read m b = Memory.read m' b) :
    leNat m k n = leNat m' k n := by
  induction n generalizing k with
  | zero => rfl
  | succ n ih =>
    simp only [leNat]
    rw [h k (by omega) (by omega), ih (fun b h1 h2 => h b (by omega) (by omega))]

/-- Byte `j` of a word, by number and by bits. -/
theorem byte_toNat (x : Word) (j : Nat) : x.toNat / 256 ^ j % 256 = (x.extractLsb' (8 * j) 8).toNat := by
  rw [BitVec.extractLsb'_toNat, Nat.shiftRight_eq_div_pow, pow_mul]; norm_num

theorem byteOfWord_toNat (v : Word) (j : Nat) : (byteOfWord v j).toNat = v.toNat / 256 ^ j % 256 := by
  rw [byte_toNat]; rfl

/-! ### The word at an offset of the DMA window (60_exceptions R502) -/

theorem dmaRegValue_eq (s : State) (o : Nat) : s.dmaRegValue (dmaRegAt o) = dmaWord s o := by
  unfold dmaRegAt dmaWord
  split
  · split
    · rename_i e; simp [e, State.dmaRegValue]
    · rename_i e; simp [e, State.dmaRegValue]
    · rename_i e; simp [e, State.dmaRegValue]
    · rename_i e1 e2 e3; rw [if_neg e1, if_neg e2, if_neg e3]; rfl
  · split
    · rfl
    · split <;> rfl

/-- What a collaborator's turn can change. -/
theorem runCalls_frame {cs : List CollabCall} {s t : State} (h : runCalls cs s = .ok t) :
    t = { s with iStat := t.iStat, queue := t.queue, seq := t.seq, nextWake := t.nextWake } := by
  induction cs generalizing s with
  | nil => cases h; rfl
  | cons c cs ih =>
    simp only [runCalls] at h
    split at h
    · rename_i u hu
      have e : u = { s with iStat := u.iStat, queue := u.queue, seq := u.seq, nextWake := u.nextWake } := by
        cases c <;> simp only [runCall, triggerInterrupt, scheduleInterrupt, scheduleEvent] at hu <;>
          split at hu <;> cases hu <;> rfl
      rw [ih h, e]
    · cases h

theorem collaboratorTurn_frame {s t : State} (h : collaboratorTurn s = .ok t) :
    t = { s with iStat := t.iStat, queue := t.queue, seq := t.seq, nextWake := t.nextWake, script := t.script } := by
  unfold collaboratorTurn at h
  split at h
  · cases h; rfl
  · rw [runCalls_frame h]

theorem collaboratorTurn_nil {s : State} (h : s.script = []) : collaboratorTurn s = .ok s := by
  unfold collaboratorTurn; rw [h]

/-- What a new value of DICR can change. -/
theorem updateMaster_frame {d : Word} {s t : State} (h : updateMaster d s = .ok t) :
    t = { s with dicr := t.dicr, queue := t.queue, seq := t.seq, nextWake := t.nextWake } := by
  unfold updateMaster scheduleInterrupt scheduleEvent at h
  split at h
  · split at h <;> cases h; rfl
  · cases h; rfl

end Sys2Proof.Machine
end

