-- ==== Sys2Proof/Laws/Encoding.lean ====
section
/-! SUPPORT. The fields of a word that a format was built from, and the word under the mask of its selecting bits. -/

namespace Sys2Proof

variable (op : BitVec 6) (rs rt rd : Reg) (sh : BitVec 5) (fn : BitVec 6) (imm : Half) (tg : BitVec 26) (code : BitVec 20)

/-! ### The R format -/

@[simp] theorem opOf_mkR : opOf (mkR op rs rt rd sh fn) = op := by
  apply BitVec.eq_of_getLsbD_eq
  intro i hi
  simp only [opOf, mkR, BitVec.getLsbD_extractLsb', BitVec.getLsbD_append]
  grind

@[simp] theorem rsOf_mkR : rsOf (mkR op rs rt rd sh fn) = rs := by
  apply BitVec.eq_of_getLsbD_eq
  intro i hi
  simp only [rsOf, mkR, BitVec.getLsbD_extractLsb', BitVec.getLsbD_append]
  grind

@[simp] theorem rtOf_mkR : rtOf (mkR op rs rt rd sh fn) = rt := by
  apply BitVec.eq_of_getLsbD_eq
  intro i hi
  simp only [rtOf, mkR, BitVec.getLsbD_extractLsb', BitVec.getLsbD_append]
  grind

@[simp] theorem rdOf_mkR : rdOf (mkR op rs rt rd sh fn) = rd := by
  apply BitVec.eq_of_getLsbD_eq
  intro i hi
  simp only [rdOf, mkR, BitVec.getLsbD_extractLsb', BitVec.getLsbD_append]
  grind

@[simp] theorem shamtOf_mkR : shamtOf (mkR op rs rt rd sh fn) = sh := by
  apply BitVec.eq_of_getLsbD_eq
  intro i hi
  simp only [shamtOf, mkR, BitVec.getLsbD_extractLsb', BitVec.getLsbD_append]
  grind

@[simp] theorem functOf_mkR : functOf (mkR op rs rt rd sh fn) = fn := by
  apply BitVec.eq_of_getLsbD_eq
  intro i hi
  simp only [functOf, mkR, BitVec.getLsbD_extractLsb', BitVec.getLsbD_append]
  grind

/-! ### The I format -/

@[simp] theorem opOf_mkI : opOf (mkI op rs rt imm) = op := by
  apply BitVec.eq_of_getLsbD_eq
  intro i hi
  simp only [opOf, mkI, BitVec.getLsbD_extractLsb', BitVec.getLsbD_append]
  grind

@[simp] theorem rsOf_mkI : rsOf (mkI op rs rt imm) = rs := by
  apply BitVec.eq_of_getLsbD_eq
  intro i hi
  simp only [rsOf, mkI, BitVec.getLsbD_extractLsb', BitVec.getLsbD_append]
  grind

@[simp] theorem rtOf_mkI : rtOf (mkI op rs rt imm) = rt := by
  apply BitVec.eq_of_getLsbD_eq
  intro i hi
  simp only [rtOf, mkI, BitVec.getLsbD_extractLsb', BitVec.getLsbD_append]
  grind

@[simp] theorem immOf_mkI : immOf (mkI op rs rt imm) = imm := by
  apply BitVec.eq_of_getLsbD_eq
  intro i hi
  simp only [immOf, mkI, BitVec.getLsbD_extractLsb', BitVec.getLsbD_append]
  grind

/-! ### The J format and the code format -/

@[simp] theorem opOf_mkJ : opOf (mkJ op tg) = op := by
  apply BitVec.eq_of_getLsbD_eq
  intro i hi
  simp only [opOf, mkJ, BitVec.getLsbD_extractLsb', BitVec.getLsbD_append]
  grind

@[simp] theorem targetOf_mkJ : targetOf (mkJ op tg) = tg := by
  apply BitVec.eq_of_getLsbD_eq
  intro i hi
  simp only [targetOf, mkJ, BitVec.getLsbD_extractLsb', BitVec.getLsbD_append]
  grind

@[simp] theorem opOf_mkCode : opOf (mkCode code fn) = 0#6 := by
  apply BitVec.eq_of_getLsbD_eq
  intro i hi
  simp only [opOf, mkCode, BitVec.getLsbD_extractLsb', BitVec.getLsbD_append]
  grind

@[simp] theorem codeOf_mkCode : codeOf (mkCode code fn) = code := by
  apply BitVec.eq_of_getLsbD_eq
  intro i hi
  simp only [codeOf, mkCode, BitVec.getLsbD_extractLsb', BitVec.getLsbD_append]
  grind

@[simp] theorem functOf_mkCode : functOf (mkCode code fn) = fn := by
  apply BitVec.eq_of_getLsbD_eq
  intro i hi
  simp only [functOf, mkCode, BitVec.getLsbD_extractLsb', BitVec.getLsbD_append]
  grind

/-- Bit 25 is the top bit of the `rs` field. -/
@[simp] theorem coOf_mkR : coOf (mkR op rs rt rd sh fn) = rs.getLsbD 4 := by
  simp only [coOf, mkR, BitVec.getLsbD_append]
  grind

/-! ### The selecting bits -/

/-- `op` and `funct` select. -/
theorem mkR_select : mkR op rs rt rd sh fn &&& 0xFC00003F#32 = mkR op 0#5 0#5 0#5 0#5 fn := by
  have e : (op ++ rs ++ rt ++ rd ++ sh ++ fn) &&& (BitVec.allOnes 6 ++ 0#5 ++ 0#5 ++ 0#5 ++ 0#5 ++ BitVec.allOnes 6) = op ++ 0#5 ++ 0#5 ++ 0#5 ++ 0#5 ++ fn := by
    simp only [BitVec.and_append, BitVec.and_zero, BitVec.and_allOnes]
  exact e

/-- `op` and `rs` select. -/
theorem mkR_select_rs : mkR op rs rt rd sh fn &&& 0xFFE00000#32 = mkR op rs 0#5 0#5 0#5 0#6 := by
  have e : (op ++ rs ++ rt ++ rd ++ sh ++ fn) &&& (BitVec.allOnes 6 ++ BitVec.allOnes 5 ++ 0#5 ++ 0#5 ++ 0#5 ++ 0#6) = op ++ rs ++ 0#5 ++ 0#5 ++ 0#5 ++ 0#6 := by
    simp only [BitVec.and_append, BitVec.and_zero, BitVec.and_allOnes]
  exact e

/-- `op` and `rt` select. -/
theorem mkI_select_rt : mkI op rs rt imm &&& 0xFC1F0000#32 = mkI op 0#5 rt 0#16 := by
  have e : (op ++ rs ++ rt ++ imm) &&& (BitVec.allOnes 6 ++ 0#5 ++ BitVec.allOnes 5 ++ 0#16) = op ++ 0#5 ++ rt ++ 0#16 := by
    simp only [BitVec.and_append, BitVec.and_zero, BitVec.and_allOnes]
  exact e

/-- `op` alone selects. -/
theorem mkI_select : mkI op rs rt imm &&& 0xFC000000#32 = mkI op 0#5 0#5 0#16 := by
  have e : (op ++ rs ++ rt ++ imm) &&& (BitVec.allOnes 6 ++ 0#5 ++ 0#5 ++ 0#16) = op ++ 0#5 ++ 0#5 ++ 0#16 := by
    simp only [BitVec.and_append, BitVec.and_zero, BitVec.and_allOnes]
  exact e

/-- `op` alone selects. -/
theorem mkJ_select : mkJ op tg &&& 0xFC000000#32 = mkJ op 0#26 := by
  have e : (op ++ tg) &&& (BitVec.allOnes 6 ++ 0#26) = op ++ 0#26 := by
    simp only [BitVec.and_append, BitVec.and_zero, BitVec.and_allOnes]
  exact e

/-- `op` and `funct` select. -/
theorem mkCode_select : mkCode code fn &&& 0xFC00003F#32 = mkCode 0#20 fn := by
  have e : (0#6 ++ code ++ fn) &&& (BitVec.allOnes 6 ++ 0#20 ++ BitVec.allOnes 6) = 0#6 ++ 0#20 ++ fn := by
    simp only [BitVec.and_append, BitVec.and_zero, BitVec.and_allOnes]
  exact e

end Sys2Proof
end

