-- ==== Sys2Proof/Laws/Exceptions.lean ====
section
/-! SUPPORT. Everything the entry of an exception does, once: the model's entry is the entry the spec describes, bit by bit. -/

namespace Sys2Proof.Machine

/-- The push of the mode stack, bit by bit (10_state R49). -/
theorem pushMode_bit (v : Word) (k : Nat) :
    (pushMode v).getLsbD k = if k < 6 then (if k < 2 then false else v.getLsbD (k - 2)) else v.getLsbD k := by
  by_cases hk : k < 32
  · simp only [pushMode, BitVec.getLsbD_or, BitVec.getLsbD_and, BitVec.getLsbD_shiftLeft]
    interval_cases k <;> simp
  · rw [if_neg (by omega), BitVec.getLsbD_of_ge _ _ (by omega), BitVec.getLsbD_of_ge _ _ (by omega)]

/-- The pop of the mode stack, bit by bit (10_state R49). -/
theorem popMode_bit (v : Word) (k : Nat) : (popMode v).getLsbD k = if k < 4 then v.getLsbD (k + 2) else v.getLsbD k := by
  by_cases hk : k < 32
  · simp only [popMode, BitVec.getLsbD_or, BitVec.getLsbD_and, BitVec.getLsbD_ushiftRight]
    interval_cases k <;> simp
  · rw [if_neg (by omega), BitVec.getLsbD_of_ge _ _ (by omega), BitVec.getLsbD_of_ge _ _ (by omega)]

/-- The code field of the Cause that an entry leaves. -/
theorem entryCause_code (m : CauseEntryMode) (old : Word) (c : Exc) (bd bt : Bool) :
    ((entryCause m old c bd bt).extractLsb' 2 5).toNat = c.number := by
  have h : (old &&& keptCause m).extractLsb' 2 5 = 0#5 := by
    cases m <;> simp [keptCause]
    apply BitVec.eq_of_getLsbD_eq
    intro i hi
    simp
    intro _
    interval_cases i <;> simp
  have d : ∀ a b : Word, (a ||| b).extractLsb' 2 5 = a.extractLsb' 2 5 ||| b.extractLsb' 2 5 := by
    intro a b; apply BitVec.eq_of_getLsbD_eq; intro i _; simp; grind
  unfold entryCause
  rw [d, h]
  cases c <;> cases bd <;> cases bt <;> decide

/-- The bits of the stored Cause that are always 0 are 0 after an entry. -/
theorem entryCause_reserved (m : CauseEntryMode) (old : Word) (c : Exc) (bd bt : Bool) :
    entryCause m old c bd bt &&& 0x3FFFFC83#32 = 0#32 := by
  have h : (old &&& keptCause m) &&& 0x3FFFFC83#32 = 0#32 := by rw [BitVec.and_assoc]; cases m <;> simp [keptCause]
  have d : ∀ a b c : Word, (a ||| b) &&& c = (a &&& c) ||| (b &&& c) := by
    intro a b c; apply BitVec.eq_of_getLsbD_eq; intro i _; simp; grind
  unfold entryCause
  rw [d, h]
  cases c <;> cases bd <;> cases bt <;> decide

/-- BD, BT and the two software bits of the Cause that an entry leaves. -/
theorem entryCause_bits (m : CauseEntryMode) (old : Word) (c : Exc) (bd bt : Bool) :
    (entryCause m old c bd bt).getLsbD 31 = bd ∧ (entryCause m old c bd bt).getLsbD 30 = bt ∧
      ∀ k, k = 8 ∨ k = 9 → (entryCause m old c bd bt).getLsbD k = (m == .preserveIP && old.getLsbD k) := by
  unfold entryCause
  refine ⟨?_, ?_, ?_⟩
  · cases m <;> cases bd <;> cases bt <;> cases c <;> simp [Exc.code, keptCause]
  · cases m <;> cases bd <;> cases bt <;> cases c <;> simp [Exc.code, keptCause]
  · rintro k (rfl | rfl) <;> cases m <;> cases bd <;> cases bt <;> cases c <;> simp [Exc.code, keptCause]

/-- Everything that exception entry does (60_exceptions R436 to R439). -/
theorem State.enter_entered (s : State) (c : Exc) (ba : Word) : Entered s (s.enter c ba) c ba where
  stack k hk := by rw [show (s.enter c ba).sr = pushMode s.sr from rfl, pushMode_bit, if_pos hk]
  srRest k hk := by rw [show (s.enter c ba).sr = pushMode s.sr from rfl, pushMode_bit, if_neg (by omega)]
  code := entryCause_code _ _ _ _ _
  software := (entryCause_bits _ _ _ _ _).2.2
  causeRest := entryCause_reserved _ _ _ _ _
  intSlot hc hb := by
    subst hc
    have h := entryCause_bits s.cfg.causeEntryMode s.cause .int true s.flagT
    simp only [State.enter, State.savedPC, hb, if_true]
    exact ⟨by simp, h.1, h.2.1⟩
  intPlain hc hb := by
    subst hc
    have h := entryCause_bits s.cfg.causeEntryMode s.cause .int false false
    simp only [State.enter, State.savedPC, hb, if_true]
    exact ⟨by simp, h.1, h.2.1⟩
  syncSlot hc hb := by
    have h := entryCause_bits s.cfg.causeEntryMode s.cause c true s.flagDT
    simp only [State.enter, State.savedPC, hc, if_false, hb, if_true]
    exact ⟨by simp, h.1, h.2.1⟩
  syncPlain hc hb := by
    have h := entryCause_bits s.cfg.causeEntryMode s.cause c false false
    simp only [State.enter, State.savedPC, hc, if_false, hb]
    exact ⟨by simp, h.1, h.2.1⟩
  bad := by cases c <;> simp [State.enter, Exc.recordsAddress]
  target := by simp [State.enter, vector, State.bev]
  after := rfl
  noBranch := ⟨rfl, rfl⟩
  frame := rfl

end Sys2Proof.Machine
end

