-- ==== Sys2Proof/Laws/Memory.lean ====
section
/-! SUPPORT. Memory: a read after a write, every other place alone, and that every memory operation keeps the canonical form. -/

namespace Sys2Proof.Machine

/-! ### One byte -/

@[simp] theorem Memory.read_nil (a : Nat) : Memory.read [] a = unlistedByte := rfl

theorem Memory.read_cons (b : Nat) (v : Byte) (m : Memory) (a : Nat) :
    Memory.read ((b, v) :: m) a = if a = b then v else Memory.read m a := rfl

/-- An address below every cell of a canonical memory is not listed. -/
theorem Memory.read_of_above {m : Memory} {a : Nat} (hw : Memory.wf m) (ha : Memory.above a m) :
    Memory.read m a = unlistedByte := by
  induction m with
  | nil => rfl
  | cons c m ih =>
    obtain ⟨b, v⟩ := c
    simp only [Memory.above, decide_eq_true_eq] at ha
    simp only [Memory.wf, Bool.and_eq_true] at hw
    rw [Memory.read_cons, if_neg (by omega)]
    refine ih hw.2 ?_
    cases m with
    | nil => rfl
    | cons d m =>
      have := hw.1.2
      simp only [Memory.above, decide_eq_true_eq] at this ⊢
      omega

/-- A write leaves every other address alone, in every memory. -/
theorem Memory.read_write_of_ne (m : Memory) {a b : Nat} (v : Byte) (h : b ≠ a) :
    Memory.read (Memory.write m a v) b = Memory.read m b := by
  induction m with
  | nil => unfold Memory.write; split <;> simp [Memory.read_cons, h]
  | cons c m ih =>
    obtain ⟨d, w⟩ := c
    unfold Memory.write
    split
    · split <;> simp [Memory.read_cons, h]
    · split
      · subst_vars; split <;> simp [Memory.read_cons, h]
      · simp [Memory.read_cons, ih]

/-- A read after a write to the same address gives the byte written, in canonical memory. -/
theorem Memory.read_write_self {m : Memory} (hw : Memory.wf m) (a : Nat) (v : Byte) :
    Memory.read (Memory.write m a v) a = v := by
  induction m with
  | nil => unfold Memory.write; split <;> simp_all [Memory.read_cons]
  | cons c m ih =>
    obtain ⟨d, w⟩ := c
    have hm := hw
    simp only [Memory.wf, Bool.and_eq_true] at hm
    unfold Memory.write
    split
    · split
      · subst_vars
        exact Memory.read_of_above hw (by simpa [Memory.above] using ‹a < d›)
      · simp [Memory.read_cons]
    · split
      · subst_vars
        split
        · subst_vars; exact Memory.read_of_above hm.2 hm.1.2
        · simp [Memory.read_cons]
      · rename_i h
        rw [Memory.read_cons, if_neg h, ih hm.2]

/-- The two laws as one equation, for canonical memory. -/
theorem Memory.read_write {m : Memory} (hw : Memory.wf m) (a b : Nat) (v : Byte) :
    Memory.read (Memory.write m a v) b = if b = a then v else Memory.read m b := by
  split
  · subst_vars; exact Memory.read_write_self hw _ v
  · exact Memory.read_write_of_ne m v ‹_›

theorem Memory.above_mono {m : Memory} {a b : Nat} (h : Memory.above b m) (hab : a ≤ b) : Memory.above a m := by
  cases m with
  | nil => rfl
  | cons c m => simp only [Memory.above, decide_eq_true_eq] at h ⊢; omega

theorem Memory.above_write {m : Memory} {a b : Nat} (v : Byte) (hw : Memory.wf m) (h : Memory.above b m) (hab : b < a) :
    Memory.above b (Memory.write m a v) := by
  cases m with
  | nil => unfold Memory.write; split <;> simp [Memory.above, hab]
  | cons c m =>
    obtain ⟨d, w⟩ := c
    simp only [Memory.wf, Bool.and_eq_true] at hw
    simp only [Memory.above, decide_eq_true_eq] at h
    unfold Memory.write
    split
    · split <;> simp [Memory.above, h, hab]
    · split
      · subst_vars
        split
        · exact Memory.above_mono hw.1.2 h.le
        · simp [Memory.above, hab]
      · simp [Memory.above, h]

/-- A write keeps the canonical form. -/
theorem Memory.wf_write {m : Memory} (hw : Memory.wf m) (a : Nat) (v : Byte) : Memory.wf (Memory.write m a v) := by
  induction m with
  | nil => unfold Memory.write; split <;> simp_all [Memory.wf, Memory.above]
  | cons c m ih =>
    obtain ⟨d, w⟩ := c
    have hm := hw
    simp only [Memory.wf, Bool.and_eq_true] at hm
    unfold Memory.write
    split
    · split
      · exact hw
      · simp_all [Memory.wf, Memory.above]
    · split
      · subst_vars
        split
        · exact hm.2
        · simp_all [Memory.wf]
      · have : d < a := by omega
        simp only [Memory.wf, Bool.and_eq_true]
        exact ⟨⟨hm.1.1, Memory.above_write v hm.2 hm.1.2 this⟩, ih hm.2⟩

/-! ### Values of a width -/

/-- The byte of a value that an access of a width at `a` puts at `b`, where it puts one. -/
def byteAt (a : Nat) (w : Width) (v : Word) (b : Nat) : Option Byte :=
  if a ≤ b ∧ b < a + w.bytes then some (byteOfWord v (b - a)) else none

/-- Everything a store of a width does, byte by byte, in canonical memory (20_memory R101, R114). -/
theorem Memory.read_writeVal {m : Memory} (hw : Memory.wf m) (a b : Nat) (v : Word) (w : Width) :
    Memory.read (Memory.writeVal m a v w) b = (byteAt a w v b).getD (Memory.read m b) := by
  have h1 := Memory.wf_write hw a (byteOfWord v 0)
  have h2 := Memory.wf_write h1 (a + 1) (byteOfWord v 1)
  have h3 := Memory.wf_write h2 (a + 2) (byteOfWord v 2)
  unfold byteAt
  by_cases h : a ≤ b ∧ b < a + w.bytes
  · rw [if_pos h, Option.getD_some]
    cases w <;> simp only [Width.bytes] at h <;> simp only [Memory.writeVal, Memory.read_write, hw, h1, h2, h3]
    · obtain rfl : b = a := by omega
      simp
    · obtain rfl | rfl : b = a ∨ b = a + 1 := by omega
      all_goals simp
    · obtain rfl | rfl | rfl | rfl : b = a ∨ b = a + 1 ∨ b = a + 2 ∨ b = a + 3 := by omega
      all_goals simp
  · rw [if_neg h, Option.getD_none]
    cases w <;> simp only [Width.bytes] at h <;> simp only [Memory.writeVal] <;>
      repeat rw [Memory.read_write_of_ne _ _ (by omega)]

/-- A store leaves every byte outside the bytes stored alone, in every memory. -/
theorem Memory.read_writeVal_outside (m : Memory) {a b : Nat} (v : Word) (w : Width) (h : b < a ∨ a + w.bytes ≤ b) :
    Memory.read (Memory.writeVal m a v w) b = Memory.read m b := by
  cases w <;> simp only [Width.bytes] at h <;> simp only [Memory.writeVal] <;>
    repeat rw [Memory.read_write_of_ne _ _ (by omega)]

/-- A store keeps the canonical form. -/
theorem Memory.wf_writeVal {m : Memory} (hw : Memory.wf m) (a : Nat) (v : Word) (w : Width) :
    Memory.wf (Memory.writeVal m a v w) := by
  cases w <;> simp only [Memory.writeVal] <;> repeat apply Memory.wf_write
  all_goals exact hw

/-- The four bytes of a word make the word. -/
theorem wordOfBytes_byteOfWord (v : Word) :
    wordOfBytes (byteOfWord v 0) (byteOfWord v 1) (byteOfWord v 2) (byteOfWord v 3) = v := by
  apply BitVec.eq_of_getLsbD_eq
  intro i hi
  simp only [wordOfBytes, byteOfWord, BitVec.getLsbD_append, BitVec.getLsbD_extractLsb']
  by_cases h0 : i < 8
  · simp [h0]
  by_cases h1 : i < 16
  · simp [h0, show i - 8 < 8 by omega, show 8 + (i - 8) = i by omega]
  by_cases h2 : i < 24
  · simp [h0, show ¬ i - 8 < 8 by omega, show i - 8 - 8 < 8 by omega, show 16 + (i - 8 - 8) = i by omega]
  · simp [h0, show ¬ i - 8 < 8 by omega, show ¬ i - 8 - 8 < 8 by omega, show i - 8 - 8 - 8 < 8 by omega,
      show 24 + (i - 8 - 8 - 8) = i by omega]

/-- Reading back what a store wrote gives the part of the value that the width moves, in canonical memory. -/
theorem Memory.readVal_writeVal {m : Memory} (hw : Memory.wf m) (a : Nat) (v : Word) (w : Width) :
    Memory.readVal (Memory.writeVal m a v w) a w = w.trunc v := by
  cases w <;> simp only [Memory.readVal, Memory.read_writeVal hw, byteAt, Width.bytes, Width.trunc]
  · simp [byteOfWord]
  · simp only [show a ≤ a ∧ a < a + 2 by omega, show a ≤ a + 1 ∧ a + 1 < a + 2 by omega,
      Nat.sub_self, Nat.add_sub_cancel_left]
    congr 1
    apply BitVec.eq_of_getLsbD_eq
    intro i hi
    simp only [byteOfWord, BitVec.getLsbD_append, BitVec.getLsbD_extractLsb']
    by_cases h0 : i < 8
    · simp [h0, hi]
    · simp [h0, hi, show i - 8 < 8 by omega, show 8 + (i - 8) = i by omega]
  · simp [wordOfBytes_byteOfWord]

end Sys2Proof.Machine
end

