-- ==== Sys2Proof/Laws/Merge.lean ====
section
/-! SUPPORT. The merges of the partial-word loads and stores, byte by byte (43_loadstore R360, R364). -/

namespace Sys2Proof.Machine

theorem lowBits_eq (a : Word) : lowBits a = BitVec.ofNat 2 (a.toNat % 4) := by
  apply BitVec.eq_of_toNat_eq; simp [lowBits, BitVec.extractLsb'_toNat]

/-- Two words have a byte in common when its bits agree. -/
theorem byte_eq_of_bits {x y : Word} {j k : Nat} (h : ∀ i, i < 8 → x.getLsbD (8 * j + i) = y.getLsbD (8 * k + i)) :
    x.toNat / 256 ^ j % 256 = y.toNat / 256 ^ k % 256 := by
  rw [byte_toNat, byte_toNat]; congr 1
  apply BitVec.eq_of_getLsbD_eq; intro i hi
  simp only [BitVec.getLsbD_extractLsb', hi]; simpa using h i hi

theorem lwlMerge_byte (a c w : Word) (j : Nat) (hj : j < 4) :
    (lwlMerge (lowBits a) c w).toNat / 256 ^ j % 256 = lwlByte a c w.toNat j := by
  rw [lowBits_eq]; unfold lwlByte
  have hk : a.toNat % 4 < 4 := by omega
  generalize a.toNat % 4 = k at *
  interval_cases k <;> interval_cases j <;> simp only [Nat.reduceAdd, Nat.reduceLeDiff, if_true, if_false] <;>
    (apply byte_eq_of_bits; intro i hi; interval_cases i <;> simp [lwlMerge])

theorem lwrMerge_byte (a c w : Word) (j : Nat) (hj : j < 4) :
    (lwrMerge (lowBits a) c w).toNat / 256 ^ j % 256 = lwrByte a c w.toNat j := by
  rw [lowBits_eq]; unfold lwrByte
  have hk : a.toNat % 4 < 4 := by omega
  generalize a.toNat % 4 = k at *
  interval_cases k <;> interval_cases j <;> simp only [Nat.reduceAdd, Nat.reduceLeDiff, if_true, if_false] <;>
    (apply byte_eq_of_bits; intro i hi; interval_cases i <;> simp [lwrMerge])

theorem swlMerge_byte (a v m : Word) (j : Nat) (hj : j < 4) :
    (swlMerge (lowBits a) v m).toNat / 256 ^ j % 256 =
      if j ≤ a.toNat % 4 then v.toNat / 256 ^ (3 - a.toNat % 4 + j) % 256 else m.toNat / 256 ^ j % 256 := by
  rw [lowBits_eq]
  have hk : a.toNat % 4 < 4 := by omega
  generalize a.toNat % 4 = k at *
  interval_cases k <;> interval_cases j <;>
    simp only [Nat.reduceAdd, Nat.reduceSub, Nat.reduceLeDiff, if_true, if_false] <;>
    (apply byte_eq_of_bits; intro i hi; interval_cases i <;> simp [swlMerge])

theorem swrMerge_byte (a v m : Word) (j : Nat) (hj : j < 4) :
    (swrMerge (lowBits a) v m).toNat / 256 ^ j % 256 =
      if a.toNat % 4 ≤ j then v.toNat / 256 ^ (j - a.toNat % 4) % 256 else m.toNat / 256 ^ j % 256 := by
  rw [lowBits_eq]
  have hk : a.toNat % 4 < 4 := by omega
  generalize a.toNat % 4 = k at *
  interval_cases k <;> interval_cases j <;>
    simp only [Nat.reduceSub, Nat.reduceLeDiff, if_true, if_false] <;>
    (apply byte_eq_of_bits; intro i hi; interval_cases i <;> simp [swrMerge])

end Sys2Proof.Machine
end

