-- ==== Sys2Proof/Laws/Mode.lean ====
section
/-! SUPPORT. A data access sees of SR only Isc: with any other SR of the same Isc it stops in the same way, or answers the same
value and the same state but for that SR. So a claim about modes need not look inside the Bus (44_system R395). -/

namespace Sys2Proof.Machine

/-- A state with another SR. -/
abbrev State.withSr (v : Word) (s : State) : State := { s with sr := v }

theorem triggerInterrupt_withSr (v : Word) (n : Nat) (s : State) :
    triggerInterrupt n (s.withSr v) = (triggerInterrupt n s).map (State.withSr v) := by
  unfold triggerInterrupt; split <;> rfl

theorem scheduleEvent_withSr (v : Word) (d : Nat) (p : Payload) (s : State) :
    scheduleEvent d p (s.withSr v) = (scheduleEvent d p s).map (State.withSr v) := by
  unfold scheduleEvent; split <;> rfl

theorem runCalls_withSr (v : Word) (cs : List CollabCall) (s : State) :
    runCalls cs (s.withSr v) = (runCalls cs s).map (State.withSr v) := by
  induction cs generalizing s with
  | nil => rfl
  | cons c cs ih =>
    have h : runCall c (s.withSr v) = (runCall c s).map (State.withSr v) := by
      cases c with
      | triggerInterrupt n => exact triggerInterrupt_withSr v n s
      | scheduleEvent d k => exact scheduleEvent_withSr v d _ s
      | scheduleInterrupt d n => exact scheduleEvent_withSr v d _ s
    simp only [runCalls, h]
    cases runCall c s with
    | error r => rfl
    | ok t => exact ih t

theorem collaboratorTurn_withSr (v : Word) (s : State) :
    collaboratorTurn (s.withSr v) = (collaboratorTurn s).map (State.withSr v) := by
  unfold collaboratorTurn
  show (match s.script with | [] => _ | calls :: rest => _) = _
  cases s.script with
  | nil => rfl
  | cons calls rest => exact runCalls_withSr v calls { s with script := rest }

theorem portWrite_withSr (v : Word) (n : Fin 7) (x : Word) (s : State) :
    portWrite n x (s.withSr v) = (portWrite n x s).map (State.withSr v) :=
  collaboratorTurn_withSr v { s with extLog := .portWrite n.val x :: s.extLog }

theorem copyWord_withSr (v : Word) (n : Fin 7) (b : Bool) (a : Word) (s : State) :
    copyWord n b a (s.withSr v) = (copyWord n b a s).map (State.withSr v) := by
  unfold copyWord
  split
  · exact portWrite_withSr v n _ s
  · have h := collaboratorTurn_withSr v s.draw.2
    unfold portRead
    rw [show (s.withSr v).draw.2 = s.draw.2.withSr v from rfl, h]
    cases collaboratorTurn s.draw.2 <;> rfl

theorem blockCopy_withSr (v : Word) (n : Fin 7) (b d : Bool) (k : Nat) (a : Word) (s : State) :
    blockCopy n b d k a (s.withSr v) = (blockCopy n b d k a s).map (State.withSr v) := by
  induction k generalizing a s with
  | zero => rfl
  | succ k ih =>
    simp only [blockCopy, copyWord_withSr]
    cases copyWord n b a s with
    | error r => rfl
    | ok t => exact ih _ t

theorem orderingTable_withSr (v : Word) (k : Nat) (a : Word) (s : State) :
    orderingTable k a (s.withSr v) = (orderingTable k a s).withSr v := by
  induction k generalizing a s with
  | zero => rfl
  | succ k ih => exact ih (a - 4#32) (s.setRamWord a (otcWord (k == 0) a))

theorem sendPayload_withSr (v : Word) (node : Word) (left k : Nat) (s : State) :
    sendPayload node left k (s.withSr v) = (sendPayload node left k s).map (State.withSr v) := by
  induction left generalizing k s with
  | zero => rfl
  | succ left ih =>
    simp only [sendPayload]
    rw [show (s.withSr v).ramWord = s.ramWord from rfl, portWrite_withSr]
    cases portWrite 2 (s.ramWord (node + BitVec.ofNat 32 (4 * k))) s with
    | error r => rfl
    | ok t => exact ih _ t

theorem linkedList_withSr (v : Word) (fuel : Nat) (seen : List Nat) (a : Word) (s : State) :
    linkedList fuel seen a (s.withSr v) = (linkedList fuel seen a s).map (State.withSr v) := by
  induction fuel generalizing seen a s with
  | zero => rfl
  | succ fuel ih =>
    simp only [linkedList]
    rw [show (s.withSr v).ramWord = s.ramWord from rfl, sendPayload_withSr]
    split
    · rfl
    · cases sendPayload (a &&& 0x001FFFFC#32) ((s.ramWord a).extractLsb' 24 8).toNat 1 s with
      | error r => rfl
      | ok t =>
        simp only [Except.map]
        split
        · rfl
        · exact ih _ _ t

theorem runChannel_withSr (v : Word) (n : Fin 7) (s : State) :
    runChannel n (s.withSr v) = (runChannel n s).map (State.withSr v) := by
  simp only [runChannel]
  split
  · split
    · exact congrArg Except.ok (orderingTable_withSr v _ _ s)
    · exact blockCopy_withSr v n _ _ _ _ s
  · split
    · exact linkedList_withSr v _ _ _ s
    · rfl

theorem updateMaster_withSr (v : Word) (d : Word) (s : State) :
    updateMaster d (s.withSr v) = (updateMaster d s).map (State.withSr v) := by
  unfold updateMaster
  split
  · exact scheduleEvent_withSr v _ _ { s with dicr := withMaster d }
  · rfl

theorem channelPass_withSr (v : Word) (n : Fin 7) (s : State) :
    channelPass n (s.withSr v) = (channelPass n s).map (State.withSr v) := by
  simp only [channelPass]
  split
  · rw [runChannel_withSr]
    cases runChannel n s with
    | error r => rfl
    | ok t => exact updateMaster_withSr v _ (t.setChannel n { t.chans[n] with chcr := t.chans[n].chcr &&& 0xEEFFFFFF#32 })
  · rfl

theorem channelPasses_withSr (v : Word) (ns : List (Fin 7)) (s : State) :
    channelPasses ns (s.withSr v) = (channelPasses ns s).map (State.withSr v) := by
  induction ns generalizing s with
  | nil => rfl
  | cons n ns ih =>
    simp only [channelPasses, channelPass_withSr]
    cases channelPass n s with
    | error r => rfl
    | ok t => exact ih t

theorem writeRegion_withSr (v : Word) (r : Region) (w : Width) (x : Word) (s : State) :
    writeRegion r w x (s.withSr v) = (writeRegion r w x s).map (State.withSr v) := by
  cases r with
  | irqCtl o =>
    simp only [writeRegion, irqWrite]
    split
    · rfl
    · split
      · rfl
      · split <;> rfl
  | dmaReg o =>
    simp only [writeRegion, dmaWrite]
    split
    · cases dmaRegAt o with
      | chcr n => exact channelPasses_withSr v _ (s.setChannel n { s.chans[n] with chcr := x })
      | dicr => exact updateMaster_withSr v _ s
      | _ => rfl
    · rfl
  | ext name o => exact collaboratorTurn_withSr v { s with extLog := .write name o w (w.trunc x) :: s.extLog }
  | _ => rfl

theorem readRegion_withSr (v : Word) (r : Region) (w : Width) (s : State) :
    readRegion r w (s.withSr v) = (readRegion r w s).map (fun p => (p.1, p.2.withSr v)) := by
  cases r with
  | irqCtl o =>
    simp only [readRegion]
    rw [show irqRead o w (s.withSr v) = irqRead o w s from rfl]
    cases irqRead o w s <;> rfl
  | dmaReg o =>
    simp only [readRegion]
    rw [show dmaRead o w (s.withSr v) = dmaRead o w s from rfl]
    cases dmaRead o w s <;> rfl
  | ext name o =>
    simp only [readRegion, extRead]
    have h := collaboratorTurn_withSr v { s.draw.2 with extLog := .read name o w :: s.extLog }
    rw [show ({ (s.withSr v).draw.2 with extLog := .read name o w :: (s.withSr v).extLog } : State) =
      State.withSr v { s.draw.2 with extLog := .read name o w :: s.extLog } from rfl, h]
    cases collaboratorTurn { s.draw.2 with extLog := .read name o w :: s.extLog } <;> rfl
  | _ => rfl

theorem isc_withSr {v : Word} {s : State} (h : v.getLsbD 16 = s.sr.getLsbD 16) : (s.withSr v).isc = s.isc := h

/-- A data read with another SR of the same Isc. -/
theorem memRead_withSr {v : Word} {s : State} (h : v.getLsbD 16 = s.sr.getLsbD 16) (a : Word) (w : Width) :
    memRead a w (s.withSr v) = (memRead a w s).map (fun p => (p.1, p.2.withSr v)) := by
  unfold memRead
  rw [isc_withSr h]
  split
  · rfl
  · show (match resolve s.cfg a with | .ok r => _ | .error e => _) = _
    cases resolve s.cfg a with
    | error e => rfl
    | ok r => exact readRegion_withSr v r w (s.charge s.cfg.dataAccessCycles)

/-- A data write with another SR of the same Isc. -/
theorem memWrite_withSr {v : Word} {s : State} (h : v.getLsbD 16 = s.sr.getLsbD 16) (a : Word) (w : Width) (x : Word) :
    memWrite a w x (s.withSr v) = (memWrite a w x s).map (State.withSr v) := by
  unfold memWrite
  rw [isc_withSr h]
  split
  · rfl
  · show (match resolve s.cfg a with | .ok r => _ | .error e => _) = _
    cases resolve s.cfg a with
    | error e => rfl
    | ok r => exact writeRegion_withSr v r w x (s.charge s.cfg.dataAccessCycles)

/-- A partial-word store with another SR of the same Isc. -/
theorem storePartial_withSr {v : Word} {s : State} (h : v.getLsbD 16 = s.sr.getLsbD 16) (a : Word) (f : Word → Word) :
    storePartial a f (s.withSr v) = (storePartial a f s).map (State.withSr v) := by
  simp only [storePartial]
  rw [isc_withSr h]
  split
  · rfl
  · show (match resolve s.cfg a with | .error e => _ | .ok r => _) = _
    cases resolve s.cfg a with
    | error e => rfl
    | ok r =>
      simp only
      cases r.ramOrScratch <;> rfl

end Sys2Proof.Machine
end

