-- ==== Sys2Proof/Laws/PerInstr.lean ====
section
/-! SUPPORT. Per instruction: the encoded word has the selecting bits of the instruction's row of spec/opcode_table.json. -/

namespace Sys2Proof.Laws.RowMatch

/-- The word of an instruction, under the mask of its row, is the value of its row (30_encoding R190 to R193). -/
def Statement (i : Instr) : Prop := encode i &&& i.rowMask = i.rowMatch

/-! The lemmas take the operands as their arguments; a lemma cites the selecting bits of the instruction's format. -/

theorem sll (rd : Reg) (rt : Reg) (shamt : BitVec 5) : Statement (.sll rd rt shamt) := (mkR_select _ _ _ _ _ _).trans rfl
theorem srl (rd : Reg) (rt : Reg) (shamt : BitVec 5) : Statement (.srl rd rt shamt) := (mkR_select _ _ _ _ _ _).trans rfl
theorem sra (rd : Reg) (rt : Reg) (shamt : BitVec 5) : Statement (.sra rd rt shamt) := (mkR_select _ _ _ _ _ _).trans rfl
theorem sllv (rd : Reg) (rt : Reg) (rs : Reg) : Statement (.sllv rd rt rs) := (mkR_select _ _ _ _ _ _).trans rfl
theorem srlv (rd : Reg) (rt : Reg) (rs : Reg) : Statement (.srlv rd rt rs) := (mkR_select _ _ _ _ _ _).trans rfl
theorem srav (rd : Reg) (rt : Reg) (rs : Reg) : Statement (.srav rd rt rs) := (mkR_select _ _ _ _ _ _).trans rfl
theorem jr (rs : Reg) : Statement (.jr rs) := (mkR_select _ _ _ _ _ _).trans rfl
theorem jalr (rd : Reg) (rs : Reg) : Statement (.jalr rd rs) := (mkR_select _ _ _ _ _ _).trans rfl
theorem syscall (code : BitVec 20) : Statement (.syscall code) := (mkCode_select _ _).trans rfl
theorem brk (code : BitVec 20) : Statement (.brk code) := (mkCode_select _ _).trans rfl
theorem mfhi (rd : Reg) : Statement (.mfhi rd) := (mkR_select _ _ _ _ _ _).trans rfl
theorem mthi (rs : Reg) : Statement (.mthi rs) := (mkR_select _ _ _ _ _ _).trans rfl
theorem mflo (rd : Reg) : Statement (.mflo rd) := (mkR_select _ _ _ _ _ _).trans rfl
theorem mtlo (rs : Reg) : Statement (.mtlo rs) := (mkR_select _ _ _ _ _ _).trans rfl
theorem mult (rs : Reg) (rt : Reg) : Statement (.mult rs rt) := (mkR_select _ _ _ _ _ _).trans rfl
theorem multu (rs : Reg) (rt : Reg) : Statement (.multu rs rt) := (mkR_select _ _ _ _ _ _).trans rfl
theorem div (rs : Reg) (rt : Reg) : Statement (.div rs rt) := (mkR_select _ _ _ _ _ _).trans rfl
theorem divu (rs : Reg) (rt : Reg) : Statement (.divu rs rt) := (mkR_select _ _ _ _ _ _).trans rfl
theorem add (rd : Reg) (rs : Reg) (rt : Reg) : Statement (.add rd rs rt) := (mkR_select _ _ _ _ _ _).trans rfl
theorem addu (rd : Reg) (rs : Reg) (rt : Reg) : Statement (.addu rd rs rt) := (mkR_select _ _ _ _ _ _).trans rfl
theorem sub (rd : Reg) (rs : Reg) (rt : Reg) : Statement (.sub rd rs rt) := (mkR_select _ _ _ _ _ _).trans rfl
theorem subu (rd : Reg) (rs : Reg) (rt : Reg) : Statement (.subu rd rs rt) := (mkR_select _ _ _ _ _ _).trans rfl
theorem and (rd : Reg) (rs : Reg) (rt : Reg) : Statement (.and rd rs rt) := (mkR_select _ _ _ _ _ _).trans rfl
theorem or (rd : Reg) (rs : Reg) (rt : Reg) : Statement (.or rd rs rt) := (mkR_select _ _ _ _ _ _).trans rfl
theorem xor (rd : Reg) (rs : Reg) (rt : Reg) : Statement (.xor rd rs rt) := (mkR_select _ _ _ _ _ _).trans rfl
theorem nor (rd : Reg) (rs : Reg) (rt : Reg) : Statement (.nor rd rs rt) := (mkR_select _ _ _ _ _ _).trans rfl
theorem slt (rd : Reg) (rs : Reg) (rt : Reg) : Statement (.slt rd rs rt) := (mkR_select _ _ _ _ _ _).trans rfl
theorem sltu (rd : Reg) (rs : Reg) (rt : Reg) : Statement (.sltu rd rs rt) := (mkR_select _ _ _ _ _ _).trans rfl
theorem bltz (rs : Reg) (imm : Half) : Statement (.bltz rs imm) := (mkI_select_rt _ _ _ _).trans rfl
theorem bgez (rs : Reg) (imm : Half) : Statement (.bgez rs imm) := (mkI_select_rt _ _ _ _).trans rfl
theorem bltzal (rs : Reg) (imm : Half) : Statement (.bltzal rs imm) := (mkI_select_rt _ _ _ _).trans rfl
theorem bgezal (rs : Reg) (imm : Half) : Statement (.bgezal rs imm) := (mkI_select_rt _ _ _ _).trans rfl
theorem bltzRt02 (rs : Reg) (imm : Half) : Statement (.bltzRt02 rs imm) := (mkI_select_rt _ _ _ _).trans rfl
theorem bgezRt03 (rs : Reg) (imm : Half) : Statement (.bgezRt03 rs imm) := (mkI_select_rt _ _ _ _).trans rfl
theorem bltzRt04 (rs : Reg) (imm : Half) : Statement (.bltzRt04 rs imm) := (mkI_select_rt _ _ _ _).trans rfl
theorem bgezRt05 (rs : Reg) (imm : Half) : Statement (.bgezRt05 rs imm) := (mkI_select_rt _ _ _ _).trans rfl
theorem bltzRt06 (rs : Reg) (imm : Half) : Statement (.bltzRt06 rs imm) := (mkI_select_rt _ _ _ _).trans rfl
theorem bgezRt07 (rs : Reg) (imm : Half) : Statement (.bgezRt07 rs imm) := (mkI_select_rt _ _ _ _).trans rfl
theorem bltzRt08 (rs : Reg) (imm : Half) : Statement (.bltzRt08 rs imm) := (mkI_select_rt _ _ _ _).trans rfl
theorem bgezRt09 (rs : Reg) (imm : Half) : Statement (.bgezRt09 rs imm) := (mkI_select_rt _ _ _ _).trans rfl
theorem bltzRt0A (rs : Reg) (imm : Half) : Statement (.bltzRt0A rs imm) := (mkI_select_rt _ _ _ _).trans rfl
theorem bgezRt0B (rs : Reg) (imm : Half) : Statement (.bgezRt0B rs imm) := (mkI_select_rt _ _ _ _).trans rfl
theorem bltzRt0C (rs : Reg) (imm : Half) : Statement (.bltzRt0C rs imm) := (mkI_select_rt _ _ _ _).trans rfl
theorem bgezRt0D (rs : Reg) (imm : Half) : Statement (.bgezRt0D rs imm) := (mkI_select_rt _ _ _ _).trans rfl
theorem bltzRt0E (rs : Reg) (imm : Half) : Statement (.bltzRt0E rs imm) := (mkI_select_rt _ _ _ _).trans rfl
theorem bgezRt0F (rs : Reg) (imm : Half) : Statement (.bgezRt0F rs imm) := (mkI_select_rt _ _ _ _).trans rfl
theorem bltzRt12 (rs : Reg) (imm : Half) : Statement (.bltzRt12 rs imm) := (mkI_select_rt _ _ _ _).trans rfl
theorem bgezRt13 (rs : Reg) (imm : Half) : Statement (.bgezRt13 rs imm) := (mkI_select_rt _ _ _ _).trans rfl
theorem bltzRt14 (rs : Reg) (imm : Half) : Statement (.bltzRt14 rs imm) := (mkI_select_rt _ _ _ _).trans rfl
theorem bgezRt15 (rs : Reg) (imm : Half) : Statement (.bgezRt15 rs imm) := (mkI_select_rt _ _ _ _).trans rfl
theorem bltzRt16 (rs : Reg) (imm : Half) : Statement (.bltzRt16 rs imm) := (mkI_select_rt _ _ _ _).trans rfl
theorem bgezRt17 (rs : Reg) (imm : Half) : Statement (.bgezRt17 rs imm) := (mkI_select_rt _ _ _ _).trans rfl
theorem bltzRt18 (rs : Reg) (imm : Half) : Statement (.bltzRt18 rs imm) := (mkI_select_rt _ _ _ _).trans rfl
theorem bgezRt19 (rs : Reg) (imm : Half) : Statement (.bgezRt19 rs imm) := (mkI_select_rt _ _ _ _).trans rfl
theorem bltzRt1A (rs : Reg) (imm : Half) : Statement (.bltzRt1A rs imm) := (mkI_select_rt _ _ _ _).trans rfl
theorem bgezRt1B (rs : Reg) (imm : Half) : Statement (.bgezRt1B rs imm) := (mkI_select_rt _ _ _ _).trans rfl
theorem bltzRt1C (rs : Reg) (imm : Half) : Statement (.bltzRt1C rs imm) := (mkI_select_rt _ _ _ _).trans rfl
theorem bgezRt1D (rs : Reg) (imm : Half) : Statement (.bgezRt1D rs imm) := (mkI_select_rt _ _ _ _).trans rfl
theorem bltzRt1E (rs : Reg) (imm : Half) : Statement (.bltzRt1E rs imm) := (mkI_select_rt _ _ _ _).trans rfl
theorem bgezRt1F (rs : Reg) (imm : Half) : Statement (.bgezRt1F rs imm) := (mkI_select_rt _ _ _ _).trans rfl
theorem j (target : BitVec 26) : Statement (.j target) := (mkJ_select _ _).trans rfl
theorem jal (target : BitVec 26) : Statement (.jal target) := (mkJ_select _ _).trans rfl
theorem beq (rs : Reg) (rt : Reg) (imm : Half) : Statement (.beq rs rt imm) := (mkI_select _ _ _ _).trans rfl
theorem bne (rs : Reg) (rt : Reg) (imm : Half) : Statement (.bne rs rt imm) := (mkI_select _ _ _ _).trans rfl
theorem blez (rs : Reg) (imm : Half) : Statement (.blez rs imm) := (mkI_select _ _ _ _).trans rfl
theorem bgtz (rs : Reg) (imm : Half) : Statement (.bgtz rs imm) := (mkI_select _ _ _ _).trans rfl
theorem addi (rt : Reg) (rs : Reg) (imm : Half) : Statement (.addi rt rs imm) := (mkI_select _ _ _ _).trans rfl
theorem addiu (rt : Reg) (rs : Reg) (imm : Half) : Statement (.addiu rt rs imm) := (mkI_select _ _ _ _).trans rfl
theorem slti (rt : Reg) (rs : Reg) (imm : Half) : Statement (.slti rt rs imm) := (mkI_select _ _ _ _).trans rfl
theorem sltiu (rt : Reg) (rs : Reg) (imm : Half) : Statement (.sltiu rt rs imm) := (mkI_select _ _ _ _).trans rfl
theorem andi (rt : Reg) (rs : Reg) (imm : Half) : Statement (.andi rt rs imm) := (mkI_select _ _ _ _).trans rfl
theorem ori (rt : Reg) (rs : Reg) (imm : Half) : Statement (.ori rt rs imm) := (mkI_select _ _ _ _).trans rfl
theorem xori (rt : Reg) (rs : Reg) (imm : Half) : Statement (.xori rt rs imm) := (mkI_select _ _ _ _).trans rfl
theorem lui (rt : Reg) (imm : Half) : Statement (.lui rt imm) := (mkI_select _ _ _ _).trans rfl
theorem lb (rt : Reg) (rs : Reg) (imm : Half) : Statement (.lb rt rs imm) := (mkI_select _ _ _ _).trans rfl
theorem lh (rt : Reg) (rs : Reg) (imm : Half) : Statement (.lh rt rs imm) := (mkI_select _ _ _ _).trans rfl
theorem lwl (rt : Reg) (rs : Reg) (imm : Half) : Statement (.lwl rt rs imm) := (mkI_select _ _ _ _).trans rfl
theorem lw (rt : Reg) (rs : Reg) (imm : Half) : Statement (.lw rt rs imm) := (mkI_select _ _ _ _).trans rfl
theorem lbu (rt : Reg) (rs : Reg) (imm : Half) : Statement (.lbu rt rs imm) := (mkI_select _ _ _ _).trans rfl
theorem lhu (rt : Reg) (rs : Reg) (imm : Half) : Statement (.lhu rt rs imm) := (mkI_select _ _ _ _).trans rfl
theorem lwr (rt : Reg) (rs : Reg) (imm : Half) : Statement (.lwr rt rs imm) := (mkI_select _ _ _ _).trans rfl
theorem sb (rt : Reg) (rs : Reg) (imm : Half) : Statement (.sb rt rs imm) := (mkI_select _ _ _ _).trans rfl
theorem sh (rt : Reg) (rs : Reg) (imm : Half) : Statement (.sh rt rs imm) := (mkI_select _ _ _ _).trans rfl
theorem swl (rt : Reg) (rs : Reg) (imm : Half) : Statement (.swl rt rs imm) := (mkI_select _ _ _ _).trans rfl
theorem sw (rt : Reg) (rs : Reg) (imm : Half) : Statement (.sw rt rs imm) := (mkI_select _ _ _ _).trans rfl
theorem swr (rt : Reg) (rs : Reg) (imm : Half) : Statement (.swr rt rs imm) := (mkI_select _ _ _ _).trans rfl
theorem mfc0 (rt : Reg) (rd : Reg) : Statement (.mfc0 rt rd) := (mkR_select_rs _ _ _ _ _ _).trans rfl
theorem mtc0 (rt : Reg) (rd : Reg) : Statement (.mtc0 rt rd) := (mkR_select_rs _ _ _ _ _ _).trans rfl
theorem rfe : Statement (.rfe) := by unfold Statement; decide
theorem cop2 (cofun : BitVec 26) : Statement (.cop2 cofun) := (mkJ_select _ _).trans rfl
theorem lwc2 (rt : Reg) (rs : Reg) (imm : Half) : Statement (.lwc2 rt rs imm) := (mkI_select _ _ _ _).trans rfl
theorem swc2 (rt : Reg) (rs : Reg) (imm : Half) : Statement (.swc2 rt rs imm) := (mkI_select _ _ _ _).trans rfl
theorem resOp11 : Statement (.resOp11) := by unfold Statement; decide
theorem resOp13 : Statement (.resOp13) := by unfold Statement; decide
theorem resOp14 : Statement (.resOp14) := by unfold Statement; decide
theorem resOp15 : Statement (.resOp15) := by unfold Statement; decide
theorem resOp16 : Statement (.resOp16) := by unfold Statement; decide
theorem resOp17 : Statement (.resOp17) := by unfold Statement; decide
theorem resOp18 : Statement (.resOp18) := by unfold Statement; decide
theorem resOp19 : Statement (.resOp19) := by unfold Statement; decide
theorem resOp1A : Statement (.resOp1A) := by unfold Statement; decide
theorem resOp1B : Statement (.resOp1B) := by unfold Statement; decide
theorem resOp1C : Statement (.resOp1C) := by unfold Statement; decide
theorem resOp1D : Statement (.resOp1D) := by unfold Statement; decide
theorem resOp1E : Statement (.resOp1E) := by unfold Statement; decide
theorem resOp1F : Statement (.resOp1F) := by unfold Statement; decide
theorem resOp27 : Statement (.resOp27) := by unfold Statement; decide
theorem resOp2C : Statement (.resOp2C) := by unfold Statement; decide
theorem resOp2D : Statement (.resOp2D) := by unfold Statement; decide
theorem resOp2F : Statement (.resOp2F) := by unfold Statement; decide
theorem resOp30 : Statement (.resOp30) := by unfold Statement; decide
theorem resOp31 : Statement (.resOp31) := by unfold Statement; decide
theorem resOp33 : Statement (.resOp33) := by unfold Statement; decide
theorem resOp34 : Statement (.resOp34) := by unfold Statement; decide
theorem resOp35 : Statement (.resOp35) := by unfold Statement; decide
theorem resOp36 : Statement (.resOp36) := by unfold Statement; decide
theorem resOp37 : Statement (.resOp37) := by unfold Statement; decide
theorem resOp38 : Statement (.resOp38) := by unfold Statement; decide
theorem resOp39 : Statement (.resOp39) := by unfold Statement; decide
theorem resOp3B : Statement (.resOp3B) := by unfold Statement; decide
theorem resOp3C : Statement (.resOp3C) := by unfold Statement; decide
theorem resOp3D : Statement (.resOp3D) := by unfold Statement; decide
theorem resOp3E : Statement (.resOp3E) := by unfold Statement; decide
theorem resOp3F : Statement (.resOp3F) := by unfold Statement; decide
theorem resFunct01 : Statement (.resFunct01) := by unfold Statement; decide
theorem resFunct05 : Statement (.resFunct05) := by unfold Statement; decide
theorem resFunct0A : Statement (.resFunct0A) := by unfold Statement; decide
theorem resFunct0B : Statement (.resFunct0B) := by unfold Statement; decide
theorem resFunct0E : Statement (.resFunct0E) := by unfold Statement; decide
theorem resFunct0F : Statement (.resFunct0F) := by unfold Statement; decide
theorem resFunct14 : Statement (.resFunct14) := by unfold Statement; decide
theorem resFunct15 : Statement (.resFunct15) := by unfold Statement; decide
theorem resFunct16 : Statement (.resFunct16) := by unfold Statement; decide
theorem resFunct17 : Statement (.resFunct17) := by unfold Statement; decide
theorem resFunct1C : Statement (.resFunct1C) := by unfold Statement; decide
theorem resFunct1D : Statement (.resFunct1D) := by unfold Statement; decide
theorem resFunct1E : Statement (.resFunct1E) := by unfold Statement; decide
theorem resFunct1F : Statement (.resFunct1F) := by unfold Statement; decide
theorem resFunct28 : Statement (.resFunct28) := by unfold Statement; decide
theorem resFunct29 : Statement (.resFunct29) := by unfold Statement; decide
theorem resFunct2C : Statement (.resFunct2C) := by unfold Statement; decide
theorem resFunct2D : Statement (.resFunct2D) := by unfold Statement; decide
theorem resFunct2E : Statement (.resFunct2E) := by unfold Statement; decide
theorem resFunct2F : Statement (.resFunct2F) := by unfold Statement; decide
theorem resFunct30 : Statement (.resFunct30) := by unfold Statement; decide
theorem resFunct31 : Statement (.resFunct31) := by unfold Statement; decide
theorem resFunct32 : Statement (.resFunct32) := by unfold Statement; decide
theorem resFunct33 : Statement (.resFunct33) := by unfold Statement; decide
theorem resFunct34 : Statement (.resFunct34) := by unfold Statement; decide
theorem resFunct35 : Statement (.resFunct35) := by unfold Statement; decide
theorem resFunct36 : Statement (.resFunct36) := by unfold Statement; decide
theorem resFunct37 : Statement (.resFunct37) := by unfold Statement; decide
theorem resFunct38 : Statement (.resFunct38) := by unfold Statement; decide
theorem resFunct39 : Statement (.resFunct39) := by unfold Statement; decide
theorem resFunct3A : Statement (.resFunct3A) := by unfold Statement; decide
theorem resFunct3B : Statement (.resFunct3B) := by unfold Statement; decide
theorem resFunct3C : Statement (.resFunct3C) := by unfold Statement; decide
theorem resFunct3D : Statement (.resFunct3D) := by unfold Statement; decide
theorem resFunct3E : Statement (.resFunct3E) := by unfold Statement; decide
theorem resFunct3F : Statement (.resFunct3F) := by unfold Statement; decide
theorem resCop0Rs01 : Statement (.resCop0Rs01) := by unfold Statement; decide
theorem resCop0Rs02 : Statement (.resCop0Rs02) := by unfold Statement; decide
theorem resCop0Rs03 : Statement (.resCop0Rs03) := by unfold Statement; decide
theorem resCop0Rs05 : Statement (.resCop0Rs05) := by unfold Statement; decide
theorem resCop0Rs06 : Statement (.resCop0Rs06) := by unfold Statement; decide
theorem resCop0Rs07 : Statement (.resCop0Rs07) := by unfold Statement; decide
theorem resCop0Rs08 : Statement (.resCop0Rs08) := by unfold Statement; decide
theorem resCop0Rs09 : Statement (.resCop0Rs09) := by unfold Statement; decide
theorem resCop0Rs0A : Statement (.resCop0Rs0A) := by unfold Statement; decide
theorem resCop0Rs0B : Statement (.resCop0Rs0B) := by unfold Statement; decide
theorem resCop0Rs0C : Statement (.resCop0Rs0C) := by unfold Statement; decide
theorem resCop0Rs0D : Statement (.resCop0Rs0D) := by unfold Statement; decide
theorem resCop0Rs0E : Statement (.resCop0Rs0E) := by unfold Statement; decide
theorem resCop0Rs0F : Statement (.resCop0Rs0F) := by unfold Statement; decide
theorem resCop0Co00 : Statement (.resCop0Co00) := by unfold Statement; decide
theorem resCop0Co01 : Statement (.resCop0Co01) := by unfold Statement; decide
theorem resCop0Co02 : Statement (.resCop0Co02) := by unfold Statement; decide
theorem resCop0Co03 : Statement (.resCop0Co03) := by unfold Statement; decide
theorem resCop0Co04 : Statement (.resCop0Co04) := by unfold Statement; decide
theorem resCop0Co05 : Statement (.resCop0Co05) := by unfold Statement; decide
theorem resCop0Co06 : Statement (.resCop0Co06) := by unfold Statement; decide
theorem resCop0Co07 : Statement (.resCop0Co07) := by unfold Statement; decide
theorem resCop0Co08 : Statement (.resCop0Co08) := by unfold Statement; decide
theorem resCop0Co09 : Statement (.resCop0Co09) := by unfold Statement; decide
theorem resCop0Co0A : Statement (.resCop0Co0A) := by unfold Statement; decide
theorem resCop0Co0B : Statement (.resCop0Co0B) := by unfold Statement; decide
theorem resCop0Co0C : Statement (.resCop0Co0C) := by unfold Statement; decide
theorem resCop0Co0D : Statement (.resCop0Co0D) := by unfold Statement; decide
theorem resCop0Co0E : Statement (.resCop0Co0E) := by unfold Statement; decide
theorem resCop0Co0F : Statement (.resCop0Co0F) := by unfold Statement; decide
theorem resCop0Co11 : Statement (.resCop0Co11) := by unfold Statement; decide
theorem resCop0Co12 : Statement (.resCop0Co12) := by unfold Statement; decide
theorem resCop0Co13 : Statement (.resCop0Co13) := by unfold Statement; decide
theorem resCop0Co14 : Statement (.resCop0Co14) := by unfold Statement; decide
theorem resCop0Co15 : Statement (.resCop0Co15) := by unfold Statement; decide
theorem resCop0Co16 : Statement (.resCop0Co16) := by unfold Statement; decide
theorem resCop0Co17 : Statement (.resCop0Co17) := by unfold Statement; decide
theorem resCop0Co18 : Statement (.resCop0Co18) := by unfold Statement; decide
theorem resCop0Co19 : Statement (.resCop0Co19) := by unfold Statement; decide
theorem resCop0Co1A : Statement (.resCop0Co1A) := by unfold Statement; decide
theorem resCop0Co1B : Statement (.resCop0Co1B) := by unfold Statement; decide
theorem resCop0Co1C : Statement (.resCop0Co1C) := by unfold Statement; decide
theorem resCop0Co1D : Statement (.resCop0Co1D) := by unfold Statement; decide
theorem resCop0Co1E : Statement (.resCop0Co1E) := by unfold Statement; decide
theorem resCop0Co1F : Statement (.resCop0Co1F) := by unfold Statement; decide
theorem resCop0Co20 : Statement (.resCop0Co20) := by unfold Statement; decide
theorem resCop0Co21 : Statement (.resCop0Co21) := by unfold Statement; decide
theorem resCop0Co22 : Statement (.resCop0Co22) := by unfold Statement; decide
theorem resCop0Co23 : Statement (.resCop0Co23) := by unfold Statement; decide
theorem resCop0Co24 : Statement (.resCop0Co24) := by unfold Statement; decide
theorem resCop0Co25 : Statement (.resCop0Co25) := by unfold Statement; decide
theorem resCop0Co26 : Statement (.resCop0Co26) := by unfold Statement; decide
theorem resCop0Co27 : Statement (.resCop0Co27) := by unfold Statement; decide
theorem resCop0Co28 : Statement (.resCop0Co28) := by unfold Statement; decide
theorem resCop0Co29 : Statement (.resCop0Co29) := by unfold Statement; decide
theorem resCop0Co2A : Statement (.resCop0Co2A) := by unfold Statement; decide
theorem resCop0Co2B : Statement (.resCop0Co2B) := by unfold Statement; decide
theorem resCop0Co2C : Statement (.resCop0Co2C) := by unfold Statement; decide
theorem resCop0Co2D : Statement (.resCop0Co2D) := by unfold Statement; decide
theorem resCop0Co2E : Statement (.resCop0Co2E) := by unfold Statement; decide
theorem resCop0Co2F : Statement (.resCop0Co2F) := by unfold Statement; decide
theorem resCop0Co30 : Statement (.resCop0Co30) := by unfold Statement; decide
theorem resCop0Co31 : Statement (.resCop0Co31) := by unfold Statement; decide
theorem resCop0Co32 : Statement (.resCop0Co32) := by unfold Statement; decide
theorem resCop0Co33 : Statement (.resCop0Co33) := by unfold Statement; decide
theorem resCop0Co34 : Statement (.resCop0Co34) := by unfold Statement; decide
theorem resCop0Co35 : Statement (.resCop0Co35) := by unfold Statement; decide
theorem resCop0Co36 : Statement (.resCop0Co36) := by unfold Statement; decide
theorem resCop0Co37 : Statement (.resCop0Co37) := by unfold Statement; decide
theorem resCop0Co38 : Statement (.resCop0Co38) := by unfold Statement; decide
theorem resCop0Co39 : Statement (.resCop0Co39) := by unfold Statement; decide
theorem resCop0Co3A : Statement (.resCop0Co3A) := by unfold Statement; decide
theorem resCop0Co3B : Statement (.resCop0Co3B) := by unfold Statement; decide
theorem resCop0Co3C : Statement (.resCop0Co3C) := by unfold Statement; decide
theorem resCop0Co3D : Statement (.resCop0Co3D) := by unfold Statement; decide
theorem resCop0Co3E : Statement (.resCop0Co3E) := by unfold Statement; decide
theorem resCop0Co3F : Statement (.resCop0Co3F) := by unfold Statement; decide

end Sys2Proof.Laws.RowMatch
end

