-- ==== Sys2Proof/Laws/Registers.lean ====
section
/-! SUPPORT. The register file: what a read sees after a write, and that a read depends on the register file alone. -/

namespace Sys2Proof.Machine

/-- Register 0 reads zero in every state (10_state R41). -/
@[simp] theorem State.readReg_zero (s : State) : s.readReg 0#5 = 0#32 := rfl

/-- A read depends on the register file alone. -/
theorem State.readReg_congr {s t : State} (h : t.regs = s.regs) (r : Reg) : t.readReg r = s.readReg r := by
  simp only [State.readReg, h]

@[simp] theorem State.startStep_readReg (s : State) (r : Reg) : s.startStep.readReg r = s.readReg r := rfl
@[simp] theorem State.advance_readReg (s : State) (r : Reg) : s.advance.readReg r = s.readReg r := rfl
@[simp] theorem State.charge_readReg (s : State) (n : Nat) (r : Reg) : (s.charge n).readReg r = s.readReg r := rfl
@[simp] theorem State.enter_readReg (s : State) (c : Exc) (ba : Word) (r : Reg) :
    (s.enter c ba).readReg r = s.readReg r := rfl
@[simp] theorem State.setHiLo_readReg (s : State) (h l : Word) (r : Reg) : (s.setHiLo h l).readReg r = s.readReg r := rfl
@[simp] theorem State.returnFromException_readReg (s : State) (r : Reg) :
    s.returnFromException.readReg r = s.readReg r := rfl
@[simp] theorem State.transfer_readReg (s : State) (k : Bool) (a : Word) (r : Reg) :
    (s.transfer k a).readReg r = s.readReg r := by cases k <;> rfl

/-- What a read sees in a register file with one register written: register 0 keeps reading zero. -/
theorem readReg_writeFile (s : State) (i r : Reg) (v : Word) :
    ({ s with regs := writeFile s.regs i v } : State).readReg r =
      if r = 0#5 then 0#32 else if r = i then v else s.readReg r := by
  simp only [State.readReg, writeFile]
  by_cases hr : r = 0#5
  · simp [hr]
  · simp only [if_neg hr]
    by_cases hi : i = 0#5
    · subst hi; simp [hr]
    · simp only [if_neg hi, Vector.getElem_set]
      by_cases h : r = i
      · simp [h]
      · rw [if_neg h, if_neg]
        intro e; exact h (BitVec.eq_of_toNat_eq e.symm)

end Sys2Proof.Machine
end

