-- ==== Sys2Proof/Laws/Scheduler.lean ====
section
/-! SUPPORT. The Scheduler's queue: the entry looked at next is the least by target and then by number, and the next-wake value
is the least target (60_exceptions R481, R484, R485). -/

namespace Sys2Proof.Machine

theorem Event.before_iff (a b : Event) :
    a.before b = true ↔ a.target < b.target ∨ (a.target = b.target ∧ a.seq < b.seq) := by
  unfold Event.before; simp

theorem leastFrom_mem (e : Event) (l : List Event) : leastFrom e l ∈ e :: l := by
  induction l generalizing e with
  | nil => simp [leastFrom]
  | cons f l ih =>
    simp only [leastFrom]; split
    · have := ih f; simp at this ⊢; tauto
    · have := ih e; simp at this ⊢; tauto

/-- The least entry is no greater than any. -/
theorem leastFrom_le (e : Event) (l : List Event) : ∀ f ∈ e :: l,
    (leastFrom e l).target < f.target ∨ ((leastFrom e l).target = f.target ∧ (leastFrom e l).seq ≤ f.seq) := by
  induction l generalizing e with
  | nil => intro f hf; simp at hf; subst hf; simp [leastFrom]
  | cons g l ih =>
    intro f hf
    simp only [leastFrom]
    split
    · rename_i hb; rw [Event.before_iff] at hb
      have i1 := ih g g (by simp)
      rcases List.mem_cons.1 hf with rfl | hf
      · omega
      · exact ih g f hf
    · rename_i hb; rw [Event.before_iff] at hb
      have i1 := ih e e (by simp)
      rcases List.mem_cons.1 hf with rfl | hf
      · exact ih _ _ (by simp)
      · rcases List.mem_cons.1 hf with rfl | hf
        · omega
        · exact ih e f (by simp [hf])

/-- The least target of a queue that holds something. -/
theorem leastTarget_least (q : List Event) (h : q ≠ []) :
    leastTarget q ∈ q.map Event.target ∧ ∀ e ∈ q, leastTarget q ≤ e.target := by
  cases q with
  | nil => exact absurd rfl h
  | cons e l =>
    simp only [leastTarget, leastEvent]
    refine ⟨List.mem_map_of_mem (leastFrom_mem e l), ?_⟩
    intro f hf; have := leastFrom_le e l f hf; omega

end Sys2Proof.Machine
end

