-- ==== Sys2Proof/Tests/Slice0.lean ====
section
/-! SUPPORT. Small tests, each on one step or one word, with results from spec/95_test_vectors.md or worked out by hand from a rule,
and for every obligation with hypotheses a witness that they can be met. -/

namespace Sys2Proof.Tests

open Sys2Proof.Machine

/-! ### Helpers -/

/-- The next state, where there is one. -/
def next? : Result → Option State
  | .next t => some t
  | _ => none

/-- The reason of a refusal. -/
def refused? : Result → Option Refusal
  | .refused r => some r
  | _ => none

/-- S0 of spec/95_test_vectors.md, with no program. -/
def base : State := { State.reset with pc := 0x80001000#32, nextpc := 0x80001004#32 }

/-- S0 with r1, r2 and r3, the bytes of section 6 at 0x2000, and one word at 0x80001000. -/
def start (w a b c : Word) : State :=
  ({ base with
    regs := writeFile (writeFile (writeFile base.regs 1#5 a) 2#5 b) 3#5 c
    mem := Memory.writeVal (Memory.writeVal base.mem 0x2000 0x80007F80#32 .word) 0x2004 0xDEADBEEF#32 .word } : State).placeWord
    0x80001000#32 w

/-- What a projection gives of the state after one step. -/
def after {α : Type} (f : State → α) (s : State) : Option α := (next? (step s)).map f

/-- r3 after one step, r3 being 9 before. -/
def r3 (w a b : Word) : Option Word := after (·.readReg 3#5) (start w a b 9#32)

/-- HI and LO after one step, 3 and 4 before. -/
def hiLo (w a b : Word) : Option (Word × Word) :=
  after (fun t => (t.hi, t.lo)) { start w a b 0#32 with hi := 3#32, lo := 4#32 }

/-- pc, nextpc, B, T and r31 after one step. -/
def jump (w a b : Word) : Option (Word × Word × Bool × Bool × Word) :=
  after (fun t => (t.pc, t.nextpc, t.flagB, t.flagT, t.readReg 31#5)) (start w a b 0#32)

/-- The value of the pending load of r3 after one step. -/
def loaded (w a c : Word) : Option (Option RegWrite) := after (·.pending) (start w a 0#32 c)

/-- The word at a RAM offset after one step. -/
def stored (k : Nat) (w a c : Word) : Option Word := after (fun t => Memory.readVal t.mem k .word) (start w a 0#32 c)

/-- pc, EPC, stored Cause, SR and BadVaddr after one step. -/
def entry (s : State) : Option (Word × Word × Word × Word × Word) :=
  after (fun t => (t.pc, t.epc, t.cause, t.sr, t.badVaddr)) s

/-! ### Well-formedness: one ill-formed configuration for each check, refused -/

theorem test_wf_default : Config.default.wf = true := by decide
theorem test_wf_instruction : Instr.wf (.lw 5#5 4#5 0x8000#16) = true := by decide
theorem test_wf_refuses_zero_cycles : Config.wf { Config.default with cyclesPerInstr := 0 } = false := by decide
theorem test_wf_refuses_wide_ram : Config.wf { Config.default with ramWindow := 0x1F800001 } = false := by decide
theorem test_wf_refuses_range_over_core :
    Config.wf { Config.default with externalRanges := [⟨"x", 0x1F8010FC, 8⟩] } = false := by decide
theorem test_wf_refuses_overlapping_ranges :
    Config.wf { Config.default with externalRanges := [⟨"x", 0x1F802000, 8⟩, ⟨"y", 0x1F802004, 8⟩] } = false := by decide
theorem test_wf_range_over_each_window :
    [⟨"x", 0x007FFFFF, 1⟩, ⟨"x", 0x1F8003FF, 1⟩, ⟨"x", 0x1F801077, 1⟩, ⟨"x", 0x1F801080, 1⟩, ⟨"x", 0x1FC7FFFF, 1⟩].map
      (ExtRange.apartFromCore 0x800000) = [false, false, false, false, false] := by decide

/-! ### Decoding: for every constructor a word written out from its row (30_encoding R182 to R193), the ignored bits set -/

theorem test_decode_special_1 :
    [0x03EA9F40#32, 0x03EA9F42#32, 0x03EA9F43#32, 0x02AA9FC4#32, 0x02AA9FC6#32, 0x02AA9FC7#32, 0x02BFFFC8#32, 0x02BF9FC9#32,
      0x02AF378C#32, 0x02AF378D#32, 0x03FF9FD0#32, 0x02BFFFD1#32].map decode =
    [.sll 0x13#5 0xA#5 0x1D#5, .srl 0x13#5 0xA#5 0x1D#5, .sra 0x13#5 0xA#5 0x1D#5, .sllv 0x13#5 0xA#5 0x15#5,
      .srlv 0x13#5 0xA#5 0x15#5, .srav 0x13#5 0xA#5 0x15#5, .jr 0x15#5, .jalr 0x13#5 0x15#5, .syscall 0xABCDE#20,
      .brk 0xABCDE#20, .mfhi 0x13#5, .mthi 0x15#5] := by decide
theorem test_decode_special_2 :
    [0x03FF9FD2#32, 0x02BFFFD3#32, 0x02AAFFD8#32, 0x02AAFFD9#32, 0x02AAFFDA#32, 0x02AAFFDB#32, 0x02AA9FE0#32, 0x02AA9FE1#32,
      0x02AA9FE2#32, 0x02AA9FE3#32, 0x02AA9FE4#32, 0x02AA9FE5#32].map decode =
    [.mflo 0x13#5, .mtlo 0x15#5, .mult 0x15#5 0xA#5, .multu 0x15#5 0xA#5, .div 0x15#5 0xA#5, .divu 0x15#5 0xA#5,
      .add 0x13#5 0x15#5 0xA#5, .addu 0x13#5 0x15#5 0xA#5, .sub 0x13#5 0x15#5 0xA#5, .subu 0x13#5 0x15#5 0xA#5,
      .and 0x13#5 0x15#5 0xA#5, .or 0x13#5 0x15#5 0xA#5] := by decide
theorem test_decode_special_3 :
    [0x02AA9FE6#32, 0x02AA9FE7#32, 0x02AA9FEA#32, 0x02AA9FEB#32].map decode =
    [.xor 0x13#5 0x15#5 0xA#5, .nor 0x13#5 0x15#5 0xA#5, .slt 0x13#5 0x15#5 0xA#5, .sltu 0x13#5 0x15#5 0xA#5] := by decide
theorem test_decode_regimm_1 :
    [0x06A08001#32, 0x06A18001#32, 0x06B08001#32, 0x06B18001#32].map decode =
    [.bltz 0x15#5 0x8001#16, .bgez 0x15#5 0x8001#16, .bltzal 0x15#5 0x8001#16, .bgezal 0x15#5 0x8001#16] := by decide
theorem test_decode_regimm_alias_1 :
    [0x06A28001#32, 0x06A38001#32, 0x06A48001#32, 0x06A58001#32, 0x06A68001#32, 0x06A78001#32, 0x06A88001#32, 0x06A98001#32,
      0x06AA8001#32, 0x06AB8001#32, 0x06AC8001#32, 0x06AD8001#32].map decode =
    [.bltzRt02 0x15#5 0x8001#16, .bgezRt03 0x15#5 0x8001#16, .bltzRt04 0x15#5 0x8001#16, .bgezRt05 0x15#5 0x8001#16,
      .bltzRt06 0x15#5 0x8001#16, .bgezRt07 0x15#5 0x8001#16, .bltzRt08 0x15#5 0x8001#16, .bgezRt09 0x15#5 0x8001#16,
      .bltzRt0A 0x15#5 0x8001#16, .bgezRt0B 0x15#5 0x8001#16, .bltzRt0C 0x15#5 0x8001#16, .bgezRt0D 0x15#5 0x8001#16] :=
      by decide
theorem test_decode_regimm_alias_2 :
    [0x06AE8001#32, 0x06AF8001#32, 0x06B28001#32, 0x06B38001#32, 0x06B48001#32, 0x06B58001#32, 0x06B68001#32, 0x06B78001#32,
      0x06B88001#32, 0x06B98001#32, 0x06BA8001#32, 0x06BB8001#32].map decode =
    [.bltzRt0E 0x15#5 0x8001#16, .bgezRt0F 0x15#5 0x8001#16, .bltzRt12 0x15#5 0x8001#16, .bgezRt13 0x15#5 0x8001#16,
      .bltzRt14 0x15#5 0x8001#16, .bgezRt15 0x15#5 0x8001#16, .bltzRt16 0x15#5 0x8001#16, .bgezRt17 0x15#5 0x8001#16,
      .bltzRt18 0x15#5 0x8001#16, .bgezRt19 0x15#5 0x8001#16, .bltzRt1A 0x15#5 0x8001#16, .bgezRt1B 0x15#5 0x8001#16] :=
      by decide
theorem test_decode_regimm_alias_3 :
    [0x06BC8001#32, 0x06BD8001#32, 0x06BE8001#32, 0x06BF8001#32].map decode =
    [.bltzRt1C 0x15#5 0x8001#16, .bgezRt1D 0x15#5 0x8001#16, .bltzRt1E 0x15#5 0x8001#16, .bgezRt1F 0x15#5 0x8001#16] :=
      by decide
theorem test_decode_primary_1 :
    [0x0A345679#32, 0x0E345679#32, 0x12AA8001#32, 0x16AA8001#32, 0x1ABF8001#32, 0x1EBF8001#32, 0x22AA8001#32, 0x26AA8001#32,
      0x2AAA8001#32, 0x2EAA8001#32, 0x32AA8001#32, 0x36AA8001#32].map decode =
    [.j 0x2345679#26, .jal 0x2345679#26, .beq 0x15#5 0xA#5 0x8001#16, .bne 0x15#5 0xA#5 0x8001#16, .blez 0x15#5 0x8001#16,
      .bgtz 0x15#5 0x8001#16, .addi 0xA#5 0x15#5 0x8001#16, .addiu 0xA#5 0x15#5 0x8001#16, .slti 0xA#5 0x15#5 0x8001#16,
      .sltiu 0xA#5 0x15#5 0x8001#16, .andi 0xA#5 0x15#5 0x8001#16, .ori 0xA#5 0x15#5 0x8001#16] := by decide
theorem test_decode_primary_2 :
    [0x3AAA8001#32, 0x3FEA8001#32, 0x82AA8001#32, 0x86AA8001#32, 0x8AAA8001#32, 0x8EAA8001#32, 0x92AA8001#32, 0x96AA8001#32,
      0x9AAA8001#32, 0xA2AA8001#32, 0xA6AA8001#32, 0xAAAA8001#32].map decode =
    [.xori 0xA#5 0x15#5 0x8001#16, .lui 0xA#5 0x8001#16, .lb 0xA#5 0x15#5 0x8001#16, .lh 0xA#5 0x15#5 0x8001#16,
      .lwl 0xA#5 0x15#5 0x8001#16, .lw 0xA#5 0x15#5 0x8001#16, .lbu 0xA#5 0x15#5 0x8001#16, .lhu 0xA#5 0x15#5 0x8001#16,
      .lwr 0xA#5 0x15#5 0x8001#16, .sb 0xA#5 0x15#5 0x8001#16, .sh 0xA#5 0x15#5 0x8001#16, .swl 0xA#5 0x15#5 0x8001#16] :=
      by decide
theorem test_decode_primary_3 :
    [0xAEAA8001#32, 0xBAAA8001#32, 0xCAAA8001#32, 0xEAAA8001#32].map decode =
    [.sw 0xA#5 0x15#5 0x8001#16, .swr 0xA#5 0x15#5 0x8001#16, .lwc2 0xA#5 0x15#5 0x8001#16, .swc2 0xA#5 0x15#5 0x8001#16] :=
      by decide
theorem test_decode_cop_1 :
    [0x400A9FFF#32, 0x408A9FFF#32, 0x43FFFFD0#32, 0x4A345679#32].map decode =
    [.mfc0 0xA#5 0x13#5, .mtc0 0xA#5 0x13#5, .rfe, .cop2 0x2345679#26] := by decide
theorem test_decode_reserved_op_1 :
    [0x47FFFFFF#32, 0x4FFFFFFF#32, 0x53FFFFFF#32, 0x57FFFFFF#32, 0x5BFFFFFF#32, 0x5FFFFFFF#32, 0x63FFFFFF#32, 0x67FFFFFF#32,
      0x6BFFFFFF#32, 0x6FFFFFFF#32, 0x73FFFFFF#32, 0x77FFFFFF#32].map decode =
    [.resOp11, .resOp13, .resOp14, .resOp15, .resOp16, .resOp17, .resOp18, .resOp19, .resOp1A, .resOp1B, .resOp1C, .resOp1D]
      := by decide
theorem test_decode_reserved_op_2 :
    [0x7BFFFFFF#32, 0x7FFFFFFF#32, 0x9FFFFFFF#32, 0xB3FFFFFF#32, 0xB7FFFFFF#32, 0xBFFFFFFF#32, 0xC3FFFFFF#32, 0xC7FFFFFF#32,
      0xCFFFFFFF#32, 0xD3FFFFFF#32, 0xD7FFFFFF#32, 0xDBFFFFFF#32].map decode =
    [.resOp1E, .resOp1F, .resOp27, .resOp2C, .resOp2D, .resOp2F, .resOp30, .resOp31, .resOp33, .resOp34, .resOp35, .resOp36]
      := by decide
theorem test_decode_reserved_op_3 :
    [0xDFFFFFFF#32, 0xE3FFFFFF#32, 0xE7FFFFFF#32, 0xEFFFFFFF#32, 0xF3FFFFFF#32, 0xF7FFFFFF#32, 0xFBFFFFFF#32,
      0xFFFFFFFF#32].map decode =
    [.resOp37, .resOp38, .resOp39, .resOp3B, .resOp3C, .resOp3D, .resOp3E, .resOp3F] := by decide
theorem test_decode_reserved_funct_1 :
    [0x03FFFFC1#32, 0x03FFFFC5#32, 0x03FFFFCA#32, 0x03FFFFCB#32, 0x03FFFFCE#32, 0x03FFFFCF#32, 0x03FFFFD4#32, 0x03FFFFD5#32,
      0x03FFFFD6#32, 0x03FFFFD7#32, 0x03FFFFDC#32, 0x03FFFFDD#32].map decode =
    [.resFunct01, .resFunct05, .resFunct0A, .resFunct0B, .resFunct0E, .resFunct0F, .resFunct14, .resFunct15, .resFunct16,
      .resFunct17, .resFunct1C, .resFunct1D] := by decide
theorem test_decode_reserved_funct_2 :
    [0x03FFFFDE#32, 0x03FFFFDF#32, 0x03FFFFE8#32, 0x03FFFFE9#32, 0x03FFFFEC#32, 0x03FFFFED#32, 0x03FFFFEE#32, 0x03FFFFEF#32,
      0x03FFFFF0#32, 0x03FFFFF1#32, 0x03FFFFF2#32, 0x03FFFFF3#32].map decode =
    [.resFunct1E, .resFunct1F, .resFunct28, .resFunct29, .resFunct2C, .resFunct2D, .resFunct2E, .resFunct2F, .resFunct30,
      .resFunct31, .resFunct32, .resFunct33] := by decide
theorem test_decode_reserved_funct_3 :
    [0x03FFFFF4#32, 0x03FFFFF5#32, 0x03FFFFF6#32, 0x03FFFFF7#32, 0x03FFFFF8#32, 0x03FFFFF9#32, 0x03FFFFFA#32, 0x03FFFFFB#32,
      0x03FFFFFC#32, 0x03FFFFFD#32, 0x03FFFFFE#32, 0x03FFFFFF#32].map decode =
    [.resFunct34, .resFunct35, .resFunct36, .resFunct37, .resFunct38, .resFunct39, .resFunct3A, .resFunct3B, .resFunct3C,
      .resFunct3D, .resFunct3E, .resFunct3F] := by decide
theorem test_decode_reserved_cop0_rs_1 :
    [0x403FFFFF#32, 0x405FFFFF#32, 0x407FFFFF#32, 0x40BFFFFF#32, 0x40DFFFFF#32, 0x40FFFFFF#32, 0x411FFFFF#32, 0x413FFFFF#32,
      0x415FFFFF#32, 0x417FFFFF#32, 0x419FFFFF#32, 0x41BFFFFF#32].map decode =
    [.resCop0Rs01, .resCop0Rs02, .resCop0Rs03, .resCop0Rs05, .resCop0Rs06, .resCop0Rs07, .resCop0Rs08, .resCop0Rs09,
      .resCop0Rs0A, .resCop0Rs0B, .resCop0Rs0C, .resCop0Rs0D] := by decide
theorem test_decode_reserved_cop0_rs_2 :
    [0x41DFFFFF#32, 0x41FFFFFF#32].map decode =
    [.resCop0Rs0E, .resCop0Rs0F] := by decide
theorem test_decode_reserved_cop0_co_1 :
    [0x43FFFFC0#32, 0x43FFFFC1#32, 0x43FFFFC2#32, 0x43FFFFC3#32, 0x43FFFFC4#32, 0x43FFFFC5#32, 0x43FFFFC6#32, 0x43FFFFC7#32,
      0x43FFFFC8#32, 0x43FFFFC9#32, 0x43FFFFCA#32, 0x43FFFFCB#32].map decode =
    [.resCop0Co00, .resCop0Co01, .resCop0Co02, .resCop0Co03, .resCop0Co04, .resCop0Co05, .resCop0Co06, .resCop0Co07,
      .resCop0Co08, .resCop0Co09, .resCop0Co0A, .resCop0Co0B] := by decide
theorem test_decode_reserved_cop0_co_2 :
    [0x43FFFFCC#32, 0x43FFFFCD#32, 0x43FFFFCE#32, 0x43FFFFCF#32, 0x43FFFFD1#32, 0x43FFFFD2#32, 0x43FFFFD3#32, 0x43FFFFD4#32,
      0x43FFFFD5#32, 0x43FFFFD6#32, 0x43FFFFD7#32, 0x43FFFFD8#32].map decode =
    [.resCop0Co0C, .resCop0Co0D, .resCop0Co0E, .resCop0Co0F, .resCop0Co11, .resCop0Co12, .resCop0Co13, .resCop0Co14,
      .resCop0Co15, .resCop0Co16, .resCop0Co17, .resCop0Co18] := by decide
theorem test_decode_reserved_cop0_co_3 :
    [0x43FFFFD9#32, 0x43FFFFDA#32, 0x43FFFFDB#32, 0x43FFFFDC#32, 0x43FFFFDD#32, 0x43FFFFDE#32, 0x43FFFFDF#32, 0x43FFFFE0#32,
      0x43FFFFE1#32, 0x43FFFFE2#32, 0x43FFFFE3#32, 0x43FFFFE4#32].map decode =
    [.resCop0Co19, .resCop0Co1A, .resCop0Co1B, .resCop0Co1C, .resCop0Co1D, .resCop0Co1E, .resCop0Co1F, .resCop0Co20,
      .resCop0Co21, .resCop0Co22, .resCop0Co23, .resCop0Co24] := by decide
theorem test_decode_reserved_cop0_co_4 :
    [0x43FFFFE5#32, 0x43FFFFE6#32, 0x43FFFFE7#32, 0x43FFFFE8#32, 0x43FFFFE9#32, 0x43FFFFEA#32, 0x43FFFFEB#32, 0x43FFFFEC#32,
      0x43FFFFED#32, 0x43FFFFEE#32, 0x43FFFFEF#32, 0x43FFFFF0#32].map decode =
    [.resCop0Co25, .resCop0Co26, .resCop0Co27, .resCop0Co28, .resCop0Co29, .resCop0Co2A, .resCop0Co2B, .resCop0Co2C,
      .resCop0Co2D, .resCop0Co2E, .resCop0Co2F, .resCop0Co30] := by decide
theorem test_decode_reserved_cop0_co_5 :
    [0x43FFFFF1#32, 0x43FFFFF2#32, 0x43FFFFF3#32, 0x43FFFFF4#32, 0x43FFFFF5#32, 0x43FFFFF6#32, 0x43FFFFF7#32, 0x43FFFFF8#32,
      0x43FFFFF9#32, 0x43FFFFFA#32, 0x43FFFFFB#32, 0x43FFFFFC#32].map decode =
    [.resCop0Co31, .resCop0Co32, .resCop0Co33, .resCop0Co34, .resCop0Co35, .resCop0Co36, .resCop0Co37, .resCop0Co38,
      .resCop0Co39, .resCop0Co3A, .resCop0Co3B, .resCop0Co3C] := by decide
theorem test_decode_reserved_cop0_co_6 :
    [0x43FFFFFD#32, 0x43FFFFFE#32, 0x43FFFFFF#32].map decode =
    [.resCop0Co3D, .resCop0Co3E, .resCop0Co3F] := by decide

/-- The words of 30_encoding R202. -/
theorem test_decode_worked_words : [0x8C850000#32, 0x24060001#32, 0x00000000#32].map decode =
    [.lw 5#5 4#5 0#16, .addiu 6#5 0#5 1#16, .sll 0#5 0#5 0#5] := by decide
/-- The host's numbering: bit 0 is the least significant bit of the word (30_encoding R180). -/
theorem test_decode_table_word : decodeTableWord 32 0x8C850000 = some (.lw 5#5 4#5 0#16) := by decide
theorem test_decode_short : decodeBytes [0x00#8, 0x00#8, 0x85#8] = .error .truncated := rfl
theorem test_fetch_word : (State.reset.withFetchWord 32 0x8C850000).mem =
    [(0x1FC00002, 0x85#8), (0x1FC00003, 0x8C#8)] := by decide

/-! ### ALU (95_test_vectors section 3) -/

theorem test_add : r3 0x00221820#32 0x7FFFFFFF#32 0xFFFFFFFF#32 = some 0x7FFFFFFE#32 ∧
    r3 0x00221820#32 0x80000000#32 0xFFFFFFFF#32 = some 0x9#32 := by decide
theorem test_addu : r3 0x00221821#32 0xFFFFFFFF#32 0x1#32 = some 0x0#32 := by decide
theorem test_sub : r3 0x00221822#32 0x0#32 0x80000000#32 = some 0x9#32 ∧
    r3 0x00221822#32 0xFFFFFFFF#32 0x80000000#32 = some 0x7FFFFFFF#32 ∧
    r3 0x00221822#32 0x0#32 0x1#32 = some 0xFFFFFFFF#32 := by decide
theorem test_subu : r3 0x00221823#32 0x0#32 0x1#32 = some 0xFFFFFFFF#32 := by decide
theorem test_addi : r3 0x20230001#32 0x7FFFFFFF#32 0x0#32 = some 0x9#32 ∧
    r3 0x2023FFFF#32 0x0#32 0x0#32 = some 0xFFFFFFFF#32 := by decide
theorem test_addiu : r3 0x24238000#32 0x0#32 0x0#32 = some 0xFFFF8000#32 := by decide
theorem test_slt : r3 0x0022182A#32 0xFFFFFFFF#32 0x1#32 = some 0x1#32 := by decide
theorem test_sltu : r3 0x0022182B#32 0xFFFFFFFF#32 0x1#32 = some 0x0#32 := by decide
theorem test_slti : r3 0x2823FFFF#32 0xFFFFFFFE#32 0x0#32 = some 0x1#32 := by decide
theorem test_sltiu : r3 0x2C23FFFF#32 0xFFFFFFFE#32 0x0#32 = some 0x1#32 := by decide
theorem test_and : r3 0x00221824#32 0xF0F0F0F0#32 0xFF00FF00#32 = some 0xF000F000#32 := by decide
theorem test_or : r3 0x00221825#32 0xF0F0F0F0#32 0xFF00FF00#32 = some 0xFFF0FFF0#32 := by decide
theorem test_xor : r3 0x00221826#32 0xF0F0F0F0#32 0xFF00FF00#32 = some 0x0FF00FF0#32 := by decide
theorem test_nor : r3 0x00221827#32 0xF0F0F0F0#32 0xFF00FF00#32 = some 0x000F000F#32 := by decide
theorem test_andi : r3 0x30238001#32 0xFFFFFFFF#32 0x0#32 = some 0x00008001#32 := by decide
theorem test_ori : r3 0x34238000#32 0x00010000#32 0x0#32 = some 0x00018000#32 := by decide
theorem test_xori : r3 0x3823FFFF#32 0x12345678#32 0x0#32 = some 0x1234A987#32 := by decide
theorem test_lui : r3 0x3C038001#32 0x0#32 0x0#32 = some 0x80010000#32 := by decide
theorem test_sll : r3 0x00011FC0#32 0x3#32 0x0#32 = some 0x80000000#32 := by decide
theorem test_srl : r3 0x00011902#32 0x80000000#32 0x0#32 = some 0x08000000#32 := by decide
theorem test_sra : r3 0x00011903#32 0x80000000#32 0x0#32 = some 0xF8000000#32 := by decide
theorem test_sllv : r3 0x00411804#32 0x1#32 0x21#32 = some 0x2#32 := by decide
theorem test_srlv : r3 0x00411806#32 0xF0000000#32 0x24#32 = some 0x0F000000#32 := by decide
theorem test_srav : r3 0x00411807#32 0xF0000000#32 0x1C#32 = some 0xFFFFFFFF#32 := by decide
/-- A write to register 0 is discarded (95_test_vectors W3). -/
theorem test_register_zero : after (·.readReg 0#5) (start 0x24000005#32 0#32 0#32 0#32) = some 0#32 := by decide
/-- The exception of an overflow (95_test_vectors W5). -/
theorem test_overflow_entry : entry (start 0x00221820#32 0x7FFFFFFF#32 1#32 0#32) =
    some (0x80000080#32, 0x80001000#32, 0x00000030#32, 0#32, 0#32) := by decide
/-- NOP: the cycles and the program counters alone (95_test_vectors section 3). -/
theorem test_nop : after (fun t => (t.pc, t.nextpc, t.cycles, t.regs)) base =
    some (0x80001004#32, 0x80001008#32, 2, base.regs) := by decide

/-! ### Multiply and divide (95_test_vectors sections 2 and 4) -/

theorem test_mult : hiLo 0x00220018#32 0x80000000#32 0x80000000#32 = some (0x40000000#32, 0x0#32) ∧
    hiLo 0x00220018#32 0xFFFFFFFF#32 0x2#32 = some (0xFFFFFFFF#32, 0xFFFFFFFE#32) := by decide
theorem test_multu : hiLo 0x00220019#32 0xFFFFFFFF#32 0xFFFFFFFF#32 = some (0xFFFFFFFE#32, 0x1#32) := by decide
theorem test_div : hiLo 0x0022001A#32 0xFFFFFFF9#32 0x2#32 = some (0xFFFFFFFF#32, 0xFFFFFFFD#32) ∧
    hiLo 0x0022001A#32 0x7#32 0xFFFFFFFE#32 = some (0x1#32, 0xFFFFFFFD#32) := by decide
theorem test_div_corners : hiLo 0x0022001A#32 0x5#32 0x0#32 = some (0x5#32, 0xFFFFFFFF#32) ∧
    hiLo 0x0022001A#32 0xFFFFFFFB#32 0x0#32 = some (0xFFFFFFFB#32, 0x1#32) ∧
    hiLo 0x0022001A#32 0x80000000#32 0xFFFFFFFF#32 = some (0x0#32, 0x80000000#32) := by decide
theorem test_divu : hiLo 0x0022001B#32 0xFFFFFFFF#32 0x10#32 = some (0xF#32, 0x0FFFFFFF#32) ∧
    hiLo 0x0022001B#32 0x12345678#32 0x0#32 = some (0x12345678#32, 0xFFFFFFFF#32) := by decide
theorem test_mthi : hiLo 0x00200011#32 0x12345678#32 0x0#32 = some (0x12345678#32, 0x4#32) := by decide
theorem test_mtlo : hiLo 0x00200013#32 0x12345678#32 0x0#32 = some (0x3#32, 0x12345678#32) := by decide
theorem test_mflo : after (·.readReg 3#5) { start 0x00001812#32 0#32 0#32 0#32 with hi := 5#32, lo := 6#32 } = some 6#32 := by decide
theorem test_mfhi : after (·.readReg 4#5) { start 0x00002010#32 0#32 0#32 0#32 with hi := 5#32, lo := 6#32 } = some 5#32 := by decide

/-! ### Branches and jumps (95_test_vectors section 5) -/

theorem test_beq : jump 0x10220004#32 0x7#32 0x7#32 = some (0x80001004#32, 0x80001014#32, true, true, 0x0#32) ∧
    jump 0x10220004#32 0x7#32 0x8#32 = some (0x80001004#32, 0x80001008#32, true, false, 0x0#32) := by decide
theorem test_bne : jump 0x1422FFFC#32 0x1#32 0x2#32 = some (0x80001004#32, 0x80000FF4#32, true, true, 0x0#32) := by decide
theorem test_blez : jump 0x18200003#32 0x0#32 0x0#32 = some (0x80001004#32, 0x80001010#32, true, true, 0x0#32) := by decide
theorem test_bgtz : jump 0x1C200003#32 0x80000000#32 0x0#32 = some (0x80001004#32, 0x80001008#32, true, false, 0x0#32) := by decide
theorem test_bltz : jump 0x04200003#32 0x80000000#32 0x0#32 = some (0x80001004#32, 0x80001010#32, true, true, 0x0#32) := by decide
theorem test_bgez : jump 0x04210003#32 0x0#32 0x0#32 = some (0x80001004#32, 0x80001010#32, true, true, 0x0#32) := by decide
theorem test_bltzal : jump 0x04300003#32 0x1#32 0x0#32 = some (0x80001004#32, 0x80001008#32, true, false, 0x80001008#32) := by decide
theorem test_bgezal : jump 0x04310003#32 0x1#32 0x0#32 = some (0x80001004#32, 0x80001010#32, true, true, 0x80001008#32) := by decide
theorem test_regimm_alias : jump 0x04220003#32 0x80000000#32 0x0#32 = some (0x80001004#32, 0x80001010#32, true, true, 0x0#32) ∧
    jump 0x04330003#32 0x1#32 0x0#32 = some (0x80001004#32, 0x80001010#32, true, true, 0x0#32) := by decide
theorem test_j : jump 0x08100000#32 0x0#32 0x0#32 = some (0x80001004#32, 0x80400000#32, true, true, 0x0#32) := by decide
theorem test_jal : jump 0x0C040000#32 0x0#32 0x0#32 = some (0x80001004#32, 0x80100000#32, true, true, 0x80001008#32) := by decide
theorem test_jr : jump 0x00200008#32 0x80020000#32 0x0#32 = some (0x80001004#32, 0x80020000#32, true, true, 0x0#32) ∧
    jump 0x00200008#32 0x80020002#32 0x0#32 = some (0x80001004#32, 0x80020002#32, true, true, 0x0#32) := by decide
theorem test_jalr : jump 0x0020F809#32 0x80020000#32 0x0#32 = some (0x80001004#32, 0x80020000#32, true, true, 0x80001008#32) := by decide
/-- A misaligned pc raises AdEL at its fetch (95_test_vectors section 5, JR misaligned, step 3). -/
theorem test_misaligned_fetch : entry { base with pc := 0x80020002#32 } =
    some (0x80000080#32, 0x80020002#32, 0x00000010#32, 0#32, 0x80020002#32) := by decide
/-- An interrupt after a branch: the branch is re-executed (95_test_vectors section 5, last row). -/
theorem test_interrupt_after_branch :
    after (fun t => (t.pc, t.epc, t.causeValue, t.sr, t.flagB, t.flagT))
      { start 0x10000003#32 0#32 0#32 0#32 with sr := 0x00000401#32, iMask := 8#16, iStat := 8#16 } =
    some (0x80000080#32, 0x80001000#32, 0xC0000400#32, 0x00000404#32, false, false) := by decide

/-! ### Loads and stores (95_test_vectors section 6) -/

theorem test_lb : loaded 0x80230000#32 0x80002000#32 9#32 = some (some ⟨3#5, 0xFFFFFF80#32⟩) := by decide
theorem test_lbu : loaded 0x90230000#32 0x80002000#32 9#32 = some (some ⟨3#5, 0x80#32⟩) := by decide
theorem test_lh : loaded 0x84230002#32 0x80002000#32 9#32 = some (some ⟨3#5, 0xFFFF8000#32⟩) := by decide
theorem test_lhu : loaded 0x94230002#32 0x80002000#32 9#32 = some (some ⟨3#5, 0x8000#32⟩) := by decide
theorem test_lw : loaded 0x8C230004#32 0x80002000#32 9#32 = some (some ⟨3#5, 0xDEADBEEF#32⟩) := by decide
theorem test_lwl : [0x88230000#32, 0x88230001#32, 0x88230002#32, 0x88230003#32].map (loaded · 0x80002004#32 0xAABBCCDD#32) =
    [some (some ⟨3#5, 0xEFBBCCDD#32⟩), some (some ⟨3#5, 0xBEEFCCDD#32⟩), some (some ⟨3#5, 0xADBEEFDD#32⟩), some (some ⟨3#5, 0xDEADBEEF#32⟩)] := by decide
theorem test_lwr : [0x98230000#32, 0x98230001#32, 0x98230002#32, 0x98230003#32].map (loaded · 0x80002004#32 0xAABBCCDD#32) =
    [some (some ⟨3#5, 0xDEADBEEF#32⟩), some (some ⟨3#5, 0xAADEADBE#32⟩), some (some ⟨3#5, 0xAABBDEAD#32⟩), some (some ⟨3#5, 0xAABBCCDE#32⟩)] := by decide
/-- LWL merges with the pending value (43_loadstore R361). -/
theorem test_lwl_pending :
    after (·.pending) { start 0x88230000#32 0x80002004#32 0#32 1#32 with pending := some ⟨3#5, 0x00332211#32⟩ } =
    some (some ⟨3#5, 0xEF332211#32⟩) := by decide
/-- A later load of the same register discards the pending one (95_test_vectors section 6). -/
theorem test_load_discards :
    after (fun t => (t.readReg 3#5, t.pending)) { start 0x8C230004#32 0x80002000#32 0#32 1#32 with pending := some ⟨3#5, 7#32⟩ } =
    some (1#32, some ⟨3#5, 0xDEADBEEF#32⟩) := by decide
/-- A later ordinary write wins over the pending load (95_test_vectors section 6). -/
theorem test_write_wins :
    after (·.readReg 3#5) { start 0x24030007#32 0#32 0#32 1#32 with pending := some ⟨3#5, 0x80007F80#32⟩ } = some 7#32 := by decide
/-- A pending load commits, and its delay slot reads the old value (95_test_vectors W4). -/
theorem test_load_delay :
    after (fun t => (t.readReg 3#5, t.readReg 1#5)) { start 0x00601821#32 0#32 0#32 0x77#32 with pending := some ⟨1#5, 0x1234#32⟩ } =
    some (0x77#32, 0x1234#32) := by decide
theorem test_load_misaligned : entry (start 0x84230001#32 0x80002000#32 0#32 5#32) =
      some (0x80000080#32, 0x80001000#32, 0x00000010#32, 0#32, 0x80002001#32) ∧
    after (·.cycles) (start 0x84230001#32 0x80002000#32 0#32 5#32) = some 2 := by decide
theorem test_store_misaligned : entry (start 0xAC230001#32 0x80002000#32 0#32 5#32) =
    some (0x80000080#32, 0x80001000#32, 0x00000014#32, 0#32, 0x80002001#32) := by decide
theorem test_sh : stored 0x2000 0xA4230002#32 0x80002000#32 0xCAFE1234#32 = some 0x12347F80#32 := by decide
theorem test_sb : stored 0x2000 0xA0230003#32 0x80002000#32 0x55#32 = some 0x55007F80#32 := by decide
theorem test_sw : stored 0x2000 0xAC230000#32 0x80002000#32 0x01020304#32 = some 0x01020304#32 := by decide
theorem test_sw_bytes : after (fun t => (Memory.read t.mem 0x2000, Memory.read t.mem 0x2003))
    (start 0xAC230000#32 0x80002000#32 0#32 0x01020304#32) = some (4#8, 1#8) := by decide
theorem test_swl : [0xA8230000#32, 0xA8230001#32, 0xA8230002#32, 0xA8230003#32].map (stored 0x2004 · 0x80002004#32 0x11223344#32) =
    [some 0xDEADBE11#32, some 0xDEAD1122#32, some 0xDE112233#32, some 0x11223344#32] := by decide
theorem test_swr : [0xB8230000#32, 0xB8230001#32, 0xB8230002#32, 0xB8230003#32].map (stored 0x2004 · 0x80002004#32 0x11223344#32) =
    [some 0x11223344#32, some 0x223344EF#32, some 0x3344BEEF#32, some 0x44ADBEEF#32] := by decide
theorem test_isolated_load : after (fun t => (t.pending, t.cycles))
    { start 0x8C230004#32 0x80002000#32 0#32 7#32 with sr := 0x00010000#32 } = some (some ⟨3#5, 0#32⟩, 3) := by decide
theorem test_isolated_store : after (fun t => Memory.readVal t.mem 0x2000 .word)
    { start 0xAC230000#32 0x80002000#32 0#32 7#32 with sr := 0x00010000#32 } = some 0x80007F80#32 := by decide
theorem test_unmapped_load : loaded 0x8C230000#32 0x1F000000#32 7#32 = some (some ⟨3#5, 0#32⟩) := by decide
theorem test_rom_store : after (fun t => (Memory.readVal t.mem 0x1FC00000 .word, t.cycles))
    (start 0xAC230000#32 0xBFC00000#32 0#32 7#32) = some (0#32, 6) := by decide
theorem test_scratchpad : after (fun t => Memory.readVal t.mem 0x1F800010 .word)
    (start 0xAC230000#32 0x9F800010#32 0#32 0xABCD#32) = some 0xABCD#32 := by decide
theorem test_scratchpad_through_kseg1 : refused? (step (start 0xAC230000#32 0xBF800010#32 0#32 0#32)) =
    some .scratchpadThroughKseg1 := by decide
theorem test_irq_acknowledge : after (·.iStat) { start 0xAC230000#32 0x1F801070#32 0#32 0xFFFFFFFB#32 with iStat := 0xD#16 } =
    some 9#16 := by decide
theorem test_irq_byte_store : refused? (step (start 0xA0230000#32 0x1F801070#32 0#32 0#32)) =
    some .byteAccessToInterruptController := by decide
theorem test_dma_half_store : refused? (step (start 0xA4230000#32 0x1F8010F0#32 0#32 0#32)) = some .narrowAccessToDma := by decide
theorem test_fetch_from_device : refused? (step { base with pc := 0x1F801070#32 }) = some .fetchOutsideRamAndRom := by decide
theorem test_external_load : after (fun t => (t.draws, t.extLog)) (start 0x94230000#32 0x1F801C02#32 0#32 0#32) =
    some (1, [.read "spu" 2 .half]) := by decide
theorem test_external_store : after (·.extLog) (start 0xA0230000#32 0x1F801803#32 0#32 0x1234#32) =
    some [.write "cdrom" 3 .byte 0x34#32] := by decide

/-! ### System instructions and exceptions (95_test_vectors sections 7 and 8) -/

theorem test_syscall : entry { start 0x0000000C#32 0#32 0#32 0#32 with sr := 1#32 } =
    some (0x80000080#32, 0x80001000#32, 0x00000020#32, 4#32, 0#32) := by decide
theorem test_syscall_bev : entry { start 0x0000000C#32 0#32 0#32 0#32 with sr := 0x00400000#32 } =
    some (0xBFC00180#32, 0x80001000#32, 0x00000020#32, 0x00400000#32, 0#32) := by decide
theorem test_break : entry (start 0x0000000D#32 0#32 0#32 0#32) =
    some (0x80000080#32, 0x80001000#32, 0x00000024#32, 0#32, 0#32) := by decide
theorem test_reserved : [0xFC000000#32, 0x00000001#32].map (fun w => entry (start w 0#32 0#32 0#32)) =
    [some (0x80000080#32, 0x80001000#32, 0x00000028#32, 0#32, 0#32),
     some (0x80000080#32, 0x80001000#32, 0x00000028#32, 0#32, 0#32)] := by decide
theorem test_cop2_refuse : [0x4A000001#32, 0xC8230000#32, 0xE8230000#32].map (fun w => refused?
    (step (start w 0#32 0#32 0#32))) =
    [some .cop2Word, some .cop2Word, some .cop2Word] := by decide
theorem test_cop2_no_op : [0x4A000001#32, 0xC8230000#32, 0xE8230000#32].map (fun w =>
    after (fun t => (t.pc, t.cycles, t.pending)) { start w 0x80002000#32 0#32 0#32 with cfg := { Config.default with cop2Mode := .noOp } }) =
    [some (0x80001004#32, 2, none), some (0x80001004#32, 2, none), some (0x80001004#32, 2, none)] := by decide
theorem test_mfc0 : after (·.pending) { start 0x40036000#32 0#32 0#32 0#32 with sr := 0x00400001#32 } =
      some (some ⟨3#5, 0x00400001#32⟩) ∧
    loaded 0x40037800#32 0#32 0#32 = some (some ⟨3#5, 2#32⟩) := by decide
theorem test_mtc0_software_interrupt : entry { start 0x40816800#32 0x100#32 0#32 0#32 with sr := 0x00000101#32 } =
    some (0x80000080#32, 0x80001004#32, 0#32, 0x00000104#32, 0#32) := by decide
theorem test_mtc0_preserve : entry { start 0x40816800#32 0x100#32 0#32 0#32 with
      sr := 0x00000101#32, cfg := { Config.default with causeEntryMode := .preserveIP } } =
    some (0x80000080#32, 0x80001004#32, 0x00000100#32, 0x00000104#32, 0#32) := by decide
theorem test_mtc0_epc : after (·.epc) (start 0x40817000#32 0x1234#32 0#32 0#32) = some 0#32 := by decide
theorem test_rfe : [0x0000000C#32, 0x00000034#32].map (fun v => after (·.sr) { start 0x42000010#32 0#32 0#32 0#32 with sr := v }) =
    [some 0x00000003#32, some 0x0000003D#32] := by decide
theorem test_delay_slot_exception : entry { start 0x00221820#32 0x7FFFFFFF#32 1#32 0#32 with
      pc := 0x80001000#32, flagB := true, flagT := true } =
    some (0x80000080#32, 0x80000FFC#32, 0xC0000030#32, 0#32, 0#32) := by decide
theorem test_interrupt_masked : after (fun t => (t.pc, t.causeValue)) { base with sr := 0x00000401#32, iStat := 8#16 } =
      some (0x80001004#32, 0#32) ∧
    after (fun t => (t.pc, t.causeValue)) { base with sr := 1#32, iStat := 8#16, iMask := 8#16 } =
      some (0x80001004#32, 0x400#32) := by decide
theorem test_interrupt_keeps_load : after (fun t => (t.pc, t.epc, t.pending)) { start 0x8C230004#32 0x80002000#32 0#32 1#32 with
      sr := 0x00000401#32, iStat := 8#16, iMask := 8#16 } =
    some (0x80000080#32, 0x80001004#32, some ⟨3#5, 0xDEADBEEF#32⟩) := by decide
theorem test_synchronous_wins : after (fun t => (t.causeValue, t.sr, t.iStat)) { start 0x0000000C#32 0#32 0#32 0#32 with
      sr := 0x00000401#32, iStat := 8#16, iMask := 8#16 } =
    some (0x00000420#32, 0x00000404#32, 8#16) := by decide
theorem test_nesting : after (·.sr) { start 0x0000000C#32 0#32 0#32 0#32 with sr := 0x3C#32 } = some 0x30#32 := by decide

/-! ### Scheduler and DMA (95_test_vectors sections 2 and 9) -/

/-- A state with an event due at cycle 100, and the cycle counter. -/
def withEvent (c : Nat) (p : Payload) : State :=
  { base with cycles := c, seq := 1, nextWake := 100, queue := [sentinelEvent, ⟨100, 0, p⟩] }

theorem test_event_fires : after (fun t => (t.pc, t.iStat, t.queue, t.nextWake, t.cycles)) (withEvent 100 (.irq 4)) =
    some (0x80001000#32, 0x10#16, [sentinelEvent], 2 ^ 64 - 1, 100) := by decide
theorem test_event_waits : after (fun t => (t.pc, t.iStat, t.nextWake, t.cycles)) (withEvent 99 (.irq 4)) =
    some (0x80001004#32, 0#16, 100, 101) := by decide
theorem test_events_in_order : after (·.queue)
    { base with cycles := 15, seq := 2, nextWake := 15, queue := [sentinelEvent, ⟨15, 0, .ext 1⟩, ⟨15, 1, .ext 2⟩] } =
    some [sentinelEvent, ⟨15, 1, .ext 2⟩] := by decide
theorem test_event_calls : after (fun t => (t.queue, t.nextWake))
    { withEvent 100 (.ext 1) with script := [[.scheduleInterrupt 0 4]] } =
    some ([sentinelEvent, ⟨100, 1, .irq 4⟩], 100) := by decide
theorem test_trigger_out_of_range : refused? (step { withEvent 100 (.ext 1) with script := [[.triggerInterrupt 16]] }) =
    some .interruptNumberOutOfRange := by decide
theorem test_sentinel_bound : refused? (step { withEvent (2 ^ 64 - 10) (.ext 1) with script := [[.scheduleEvent 9 1]] }) =
    some .eventAtOrBeyondSentinel := by decide

/-- A store of r3 to a word of the DMA window, with one channel's registers. -/
def dmaStart (n : Fin 7) (madr bcr : Word) (o v : Word) : State :=
  (start 0xAC230000#32 (0x1F801080#32 + o) 0#32 v).setChannel n ⟨madr, bcr, 0#32⟩

/-- 95_test_vectors W11. -/
theorem test_ordering_table : after (fun t => (Memory.readVal t.mem 0x1000 .word, Memory.readVal t.mem 0xFFC .word,
      Memory.readVal t.mem 0xFF8 .word, Memory.readVal t.mem 0xFF4 .word, t.chans[6])) (dmaStart 6 0x1000#32 4#32 0x68#32 0x11000002#32) =
    some (0xFFC#32, 0xFF8#32, 0xFF4#32, 0xFFFFFF#32, ⟨0x1000#32, 4#32, 2#32⟩) := by decide
theorem test_no_trigger : after (fun t => (Memory.readVal t.mem 0xFF4 .word, t.chans[6].chcr))
    (dmaStart 6 0x1000#32 4#32 0x68#32 0x01000000#32) = some (0#32, 0x01000000#32) := by decide
theorem test_request_mode : after (fun t => (Memory.readVal t.mem 0x2004 .word, Memory.readVal t.mem 0x2000 .word, t.chans[6].chcr))
    (dmaStart 6 0x2010#32 0x00020002#32 0x68#32 0x01000200#32) = some (0xFFFFFF#32, 0x80007F80#32, 0x200#32) := by decide
theorem test_copy_from_ram : after (fun t => (t.extLog, t.chans[2].chcr)) (dmaStart 2 0x80002004#32 2#32 0x28#32 0x11000003#32) =
    some ([.portWrite 2 0x80007F80#32, .portWrite 2 0xDEADBEEF#32], 3#32) := by decide
theorem test_copy_to_ram : after (fun t => (t.draws, t.extLog)) (dmaStart 3 0x3000#32 2#32 0x38#32 0x11000000#32) =
    some (2, []) := by decide
theorem test_dicr_rises : after (fun t => (t.dicr, t.queue))
      { dmaStart 6 0x1000#32 4#32 0x68#32 0x11000000#32 with dicr := 0x00C40000#32 } =
    some (0xC0C40000#32, [sentinelEvent, ⟨17, 0, .irq 3⟩]) := by decide
theorem test_dicr_acknowledge : after (fun t => (t.dicr, t.queue)) { dmaStart 0 0#32 0#32 0x74#32 0x7FC40000#32 with dicr := 0xC4C40000#32 } =
    some (0x00C40000#32, [sentinelEvent]) := by decide
theorem test_dicr_force : after (fun t => (t.dicr, t.queue)) { dmaStart 0 0#32 0#32 0x74#32 0x00C48000#32 with dicr := 0x00C40000#32 } =
    some (0x80C48000#32, [sentinelEvent, ⟨17, 0, .irq 3⟩]) := by decide
/-- The list of 95_test_vectors section 9: a node with two words, then a terminal node with one. -/
def listState (v : Word) : State :=
  let s := dmaStart 2 0x100#32 0#32 0x28#32 v
  { s with mem := Memory.writeVal (Memory.writeVal (Memory.writeVal (Memory.writeVal (Memory.writeVal s.mem
    0x100 0x02000200#32 .word) 0x104 0xA#32 .word) 0x108 0xB#32 .word) 0x200 0x01FFFFFF#32 .word) 0x204 0xC#32 .word }
theorem test_linked_list : after (fun t => (t.extLog, t.chans[2].chcr)) (listState 0x01000401#32) =
    some ([.portWrite 2 0xC#32, .portWrite 2 0xB#32, .portWrite 2 0xA#32], 0x401#32) := by decide
theorem test_linked_list_loop : refused? (step (dmaStart 2 0x100#32 0#32 0x28#32 0x01000401#32)) =
    some .linkedListNeverTerminates := by decide
theorem test_dma_modes_refused : [(0x28#32, 0x01000400#32), (0x08#32, 0x01000600#32)].map
    (fun p => refused? (step (dmaStart 2 0#32 0#32 p.1 p.2))) = [some .dmaModeNotSupported, some .dmaModeNotSupported] := by decide
theorem test_dma_read : after (·.pending) ((start 0x8C230000#32 0x1F8010C0#32 0#32 0#32).setChannel 4 ⟨0x12345678#32, 0#32, 0#32⟩) =
      some (some ⟨3#5, 0x12345678#32⟩) ∧
    loaded 0x8C230000#32 0x1F8010CC#32 0#32 = some (some ⟨3#5, 0#32⟩) := by decide
theorem test_refused_state : (match step { base with refusalMark := true } with | .fault .refusedState => true | _ => false) = true := by
  decide

/-! ### Witnesses: the hypotheses of every obligation that has some can be met, at the boundary values of its clauses -/

/-- A state whose r1 holds an address, and r3 a value. -/
def at' (a v : Word) : State := { base with regs := writeFile (writeFile base.regs 1#5 a) 3#5 v }

/-- A property of each member of a list. -/
def each {α : Type} : List α → (α → Prop) → Prop
  | [], _ => True
  | a :: l, p => p a ∧ each l p

/-- The address operands `0(r1)` give r1. -/
def lw' (w : Width) (signed : Bool) : AccessForm := ⟨w, signed, 3#5, 1#5, 0#16⟩

theorem witness_StepRunsTheDecodedInstruction :
    base.refusalMark = false ∧ base.cycles < base.nextWake ∧ base.pc.toNat % 4 = 0 ∧
      fetchPlace base.cfg base.pc = .ok (0x1000, 0) ∧
      decodeBytes [Memory.read base.mem 0x1000, Memory.read base.mem 0x1001, Memory.read base.mem 0x1002,
        Memory.read base.mem 0x1003] = .ok (.sll 0#5 0#5 0#5, []) :=
  ⟨by decide, by decide, by decide, rfl, rfl⟩

theorem witness_FetchFindsRamAndRom :
    base.cfg.wf = true ∧ base.refusalMark = false ∧ base.cycles < base.nextWake ∧
    (each [0#32, 0x807FFFFC#32, 0xA0000000#32] fun a => a.toNat % 4 = 0 ∧ inRam base a) ∧
    (each [0x1FC00000#32, 0xBFC7FFFC#32] fun a => a.toNat % 4 = 0 ∧ inRom a) ∧
    (each [0xBF800000#32, 0xBF8003FC#32] fun a => a.toNat % 4 = 0 ∧ ¬ inRam base a ∧ ¬ inRom a ∧ inScratch a ∧ inKseg1 a) ∧
    (each [0x1F8003FC#32, 0x80800000#32, 0xBF800400#32, 0x1FC80000#32] fun a => a.toNat % 4 = 0 ∧ ¬ inRam base a ∧ ¬ inRom a ∧
      ¬ (inScratch a ∧ inKseg1 a)) := by (simp only [each]; repeat' apply And.intro) <;> decide

theorem witness_MisalignedFetchRaises : each [0x80001001#32, 0x80001002#32, 0xFFFFFFFF#32] fun a =>
    ({ base with pc := a } : State).refusalMark = false ∧ ({ base with pc := a } : State).cycles < base.nextWake ∧
      a.toNat % 4 ≠ 0 := by (simp only [each]; repeat' apply And.intro) <;> decide

theorem witness_DecodeInvertsEncode : Instr.wf (.sw 31#5 31#5 0xFFFF#16) = true := rfl

theorem witness_EveryWordHasExactlyOneRow :
    0xFFFFFFFF#32 &&& Instr.rowMask .resOp3F = Instr.rowMatch .resOp3F := by decide

/-- A state with events, of which `State.Inv` holds. -/
theorem witness_Inv (p : Payload) (hp : p ≠ .sentinel) (c : Nat) : (withEvent c p).Inv where
  cfgWf := show base.cfg.wf = true by decide
  memWf := show Memory.wf base.mem = true by decide
  regZero := show base.regs[0] = 0#32 by decide
  causeReserved := show base.cause &&& 0x3FFFFC83#32 = 0#32 by decide
  dicrReserved := show base.dicr &&& 0x00007FC0#32 = 0#32 by decide
  dicrMaster := show base.dicr.getLsbD 31 = masterValue base.dicr by decide
  sentinel := List.mem_cons_self
  entries e he hne := by
    simp only [withEvent, List.mem_cons, List.not_mem_nil, or_false] at he
    rcases he with rfl | rfl
    · exact absurd rfl hne
    · exact ⟨hp, show 100 < 2 ^ 64 - 1 by decide, show 0 < 1 by decide⟩
  numbered := by
    cases p with
    | sentinel => exact absurd rfl hp
    | irq n => simp [withEvent, sentinelEvent]
    | ext n => simp [withEvent, sentinelEvent]
  wake := by simp [withEvent, sentinelEvent, Config.maxCycle]

theorem witness_StepKeepsInvariant :
    (withEvent 99 (.irq 4)).Inv ∧ (∃ t, step (withEvent 99 (.irq 4)) = .next t) ∧
    (withEvent 100 (.ext 1)).Inv ∧ ∃ t, step (withEvent 100 (.ext 1)) = .next t :=
  ⟨witness_Inv _ (by decide) _, ⟨_, rfl⟩, witness_Inv _ (by decide) _, ⟨_, rfl⟩⟩

theorem witness_StepKeepsRomAndConfiguration : ∃ t, step (start 0xAC230000#32 0xBFC00000#32 0#32 7#32) = .next t := ⟨_, rfl⟩

theorem witness_CyclesNeverDecrease :
    (∃ t, step (withEvent 99 (.irq 4)) = .next t) ∧ (withEvent 99 (.irq 4)).cycles < (withEvent 99 (.irq 4)).nextWake ∧
    (∃ t, step (withEvent 100 (.irq 4)) = .next t) ∧
    ∃ e, (withEvent 100 (.irq 4)).nextWake ≤ (withEvent 100 (.irq 4)).cycles ∧ (withEvent 100 (.irq 4)).dueEvent = some e :=
  ⟨⟨_, rfl⟩, by decide, ⟨_, rfl⟩, ⟨100, 0, .irq 4⟩, by decide, by decide⟩

theorem witness_OperandForms :
    ({ base with pending := some ⟨3#5, 7#32⟩ } : State).pending = some ⟨3#5, 7#32⟩ ∧ (⟨3#5, 7#32⟩ : RegWrite).reg = 3#5 ∧
    (∀ p, base.pending = some p → p.reg ≠ 3#5) ∧
    ∀ p, ({ base with pending := some ⟨4#5, 7#32⟩ } : State).pending = some p → p.reg ≠ 3#5 := by
  refine ⟨rfl, rfl, fun p h => (by cases h), fun p h => ?_⟩
  cases h; decide

/-- The sums and differences at both ends of the signed range, and just past them. -/
theorem witness_TrappingArithmetic :
    let x (a : Word) := ((at' a 0#32).readReg 1#5).toInt
    (x 0x7FFFFFFE#32 + x 1#32 = 2 ^ 31 - 1 ∧ x 0x7FFFFFFF#32 + x 1#32 = 2 ^ 31) ∧
    (x 0x80000000#32 + x 0#32 = -(2 ^ 31) ∧ x 0x80000000#32 + x 0xFFFFFFFF#32 = -(2 ^ 31) - 1) ∧
    (x 0#32 - x 0x80000001#32 = 2 ^ 31 - 1 ∧ x 0#32 - x 0x80000000#32 = 2 ^ 31) ∧
    (x 0x80000001#32 - x 1#32 = -(2 ^ 31) ∧ x 0x80000000#32 - x 1#32 = -(2 ^ 31) - 1) ∧
    (x 0x7FFF8000#32 + (0x7FFF#16).toInt = 2 ^ 31 - 1 ∧ x 0x80007FFF#32 + (0x8000#16).toInt = -(2 ^ 31) - 1) := by decide

theorem witness_RegimmBranches :
    (Instr.bltz 1#5 0#16).regimm = some (0x00#5, 1#5, 0#16) ∧ (Instr.bgezal 1#5 0#16).regimm = some (0x11#5, 1#5, 0#16) ∧
      (Instr.bgezRt1F 1#5 0#16).regimm = some (0x1F#5, 1#5, 0#16) := by decide

theorem witness_RegimmAndCop0WordsDecode : (0x10#5).getLsbD 4 = true ∧ (0x1F#5).getLsbD 4 = true := by decide

theorem witness_Divisions :
    (at' 5#32 0#32).readReg 2#5 = 0#32 ∧
    ((at' 0x80000000#32 0xFFFFFFFF#32).readReg 1#5 = 0x80000000#32 ∧ (at' 0x80000000#32 0xFFFFFFFF#32).readReg 3#5 = 0xFFFFFFFF#32) ∧
    (at' 7#32 0xFFFFFFFE#32).readReg 3#5 ≠ 0#32 ∧
      ¬ ((at' 7#32 0xFFFFFFFE#32).readReg 1#5 = 0x80000000#32 ∧ (at' 7#32 0xFFFFFFFE#32).readReg 3#5 = 0xFFFFFFFF#32) := by decide

theorem witness_LoadsAnswer_forms :
    (Instr.lb 3#5 1#5 0#16).plainLoad = some (lw' .byte true) ∧ (Instr.lhu 3#5 1#5 0#16).plainLoad = some (lw' .half false) ∧
      (Instr.lw 3#5 1#5 0#16).plainLoad = some (lw' .word false) ∧
      each [(0x807FFFFF#32, Width.byte), (0x1F8003FE#32, .half), (0xBFC7FFFC#32, .word), (0x1F801076#32, .half)] fun p =>
        alignedTo p.2 ((at' p.1 0#32).ea 1#5 0#16) ∧ (at' p.1 0#32).cfg.wf = true := by
  (simp only [each]; repeat' apply And.intro) <;> decide

theorem witness_LoadsAnswer_answers :
    Answers { base with sr := 0x00010000#32 } 0x1F8010F0#32 .byte 0 ∧
    Answers base 0x807FFFFF#32 .byte (leNat base.mem (cellOf base 0x807FFFFF#32) 1) ∧
    Answers base 0x1F8003FE#32 .half (leNat base.mem (cellOf base 0x1F8003FE#32) 2) ∧
    Answers base 0xBFC7FFFC#32 .word (leNat base.mem (cellOf base 0xBFC7FFFC#32) 4) ∧
    Answers base 0x1F801070#32 .word base.iStat.toNat ∧ Answers base 0x1F801074#32 .half base.iMask.toNat ∧
    Answers base 0x1F801072#32 .half 0 ∧ Answers base 0x1F801076#32 .half 0 ∧
    Answers base 0x1F8010FC#32 .word (dmaWord base (virtPhys 0x1F8010FC#32 - 0x1F801080)).toNat ∧
    Answers base 0x1FC80000#32 .word 0 ∧ Answers base 0x00800000#32 .byte 0 :=
  ⟨.isolated (by decide), .memory (by decide) (by decide), .memory (by decide) (by decide), .memory (by decide) (by decide),
    .iStat (by decide) (by decide) (by decide), .iMask (by decide) (by decide) (by decide),
    .upper (by decide) (by decide) (by decide), .upper (by decide) (by decide) (by decide),
    .dma (by decide) rfl (by decide), .unmapped (by decide) (by unfold inNothing; decide),
    .unmapped (by decide) (by unfold inNothing; decide)⟩

theorem witness_MisalignedAccessesRaise :
    (each [0x80002001#32, 0xFFFFFFFF#32] fun a => ¬ alignedTo .half ((at' a 0#32).ea 1#5 0#16)) ∧
    (each [0x80002001#32, 0x80002002#32, 0x80002003#32] fun a => ¬ alignedTo .word ((at' a 0#32).ea 1#5 0#16)) ∧
    (Instr.lh 3#5 1#5 0#16).plainLoad = some (lw' .half true) ∧ (Instr.lw 3#5 1#5 0#16).plainLoad = some (lw' .word false) ∧
    (Instr.sh 3#5 1#5 0#16).plainStore = some (lw' .half false) ∧ (Instr.sw 3#5 1#5 0#16).plainStore = some (lw' .word false) := by
  (simp only [each]; repeat' apply And.intro) <;> decide

theorem witness_PartialLoadsMerge : (at' 0x807FFFFF#32 0#32).cfg.wf = true ∧
    Answers (at' 0x807FFFFF#32 0#32) (BitVec.ofNat 32 (((at' 0x807FFFFF#32 0#32).ea 1#5 0#16).toNat / 4 * 4)) .word 0 :=
  ⟨by decide, .memory (by decide) (by decide)⟩

/-- A state whose collaborators' next turn makes a call of each kind, at the bound the spec sets. -/
def withCalls (s : State) : State :=
  { s with script := [[.triggerInterrupt 15, .scheduleEvent 1 7, .scheduleInterrupt (2 ^ 64 - 3) 99]] }

theorem witness_turnAllowed (s : State) (h : s.cycles ≤ 1) : (withCalls s).turnAllowed ∧ base.turnAllowed := by
  constructor
  · intro c hc
    simp only [State.nextCalls, withCalls, List.headD_cons, List.mem_cons, List.not_mem_nil, or_false] at hc
    rcases hc with rfl | rfl | rfl <;> simp only [withCalls] <;> omega
  · intro c hc; cases hc

theorem witness_ExternalLoads :
    (each [0x1F801040#32, 0x1F80105F#32, 0x9F801040#32] fun a => (at' a 0#32).cfg.wf = true ∧ ¬ isolated (at' a 0#32) ∧
      ⟨"pad", 0x1F801040, 0x20⟩ ∈ (at' a 0#32).cfg.externalRanges ∧ alignedTo .byte ((at' a 0#32).ea 1#5 0#16) ∧
      inRange ((at' a 0#32).ea 1#5 0#16) ⟨"pad", 0x1F801040, 0x20⟩ ∧
      inRange (BitVec.ofNat 32 (((at' a 0#32).ea 1#5 0#16).toNat / 4 * 4)) ⟨"pad", 0x1F801040, 0x20⟩) ∧
    (withCalls { base with cycles := base.cycles + base.cfg.dataAccessCycles }).turnAllowed :=
  ⟨by (simp only [each]; repeat' apply And.intro) <;> decide, (witness_turnAllowed _ (by decide)).1⟩

theorem witness_StoresToMemory :
    (Instr.sb 3#5 1#5 0#16).plainStore = some (lw' .byte false) ∧
    (each [0x80000000#32, 0x807FFFFF#32, 0x1F800000#32, 0x9F8003FF#32] fun a =>
      (at' a 0#32).cfg.wf = true ∧ Memory.wf (at' a 0#32).mem = true ∧ alignedTo .byte ((at' a 0#32).ea 1#5 0#16) ∧
      ¬ isolated (at' a 0#32) ∧ inStore (at' a 0#32) ((at' a 0#32).ea 1#5 0#16)) ∧
    (each [0xA01FFFFC#32, 0x1F8003FC#32] fun a => alignedTo .word ((at' a 0#32).ea 1#5 0#16) ∧
      inStore (at' a 0#32) ((at' a 0#32).ea 1#5 0#16)) := by (simp only [each]; repeat' apply And.intro) <;> decide

theorem witness_DroppedStores :
    isolated { base with sr := 0x00010000#32 } ∧
    (each [0x1FC00000#32, 0xBFC7FFFC#32] fun a => alignedTo .word ((at' a 0#32).ea 1#5 0#16) ∧ inRom ((at' a 0#32).ea 1#5 0#16)) ∧
    inNothing (at' 0x1F000000#32 0#32) ((at' 0x1F000000#32 0#32).ea 1#5 0#16) := by
  refine ⟨by decide, by (simp only [each]; repeat' apply And.intro) <;> decide, ?_⟩
  unfold inNothing; decide

theorem witness_PartialStoresMerge : each [0x80000000#32, 0x807FFFFF#32, 0x1F8003FE#32] fun a =>
    (at' a 0#32).cfg.wf = true ∧ Memory.wf (at' a 0#32).mem = true ∧ ¬ isolated (at' a 0#32) ∧
    inStore (at' a 0#32) (BitVec.ofNat 32 (((at' a 0#32).ea 1#5 0#16).toNat / 4 * 4)) := by (simp only [each]; repeat' apply And.intro) <;> decide

theorem witness_ExternalStores :
    (Instr.sw 3#5 1#5 0#16).plainStore = some (lw' .word false) ∧
    (each [0x1F801C00#32, 0xBF801E7C#32] fun a => (at' a 0#32).cfg.wf = true ∧ alignedTo .word ((at' a 0#32).ea 1#5 0#16) ∧
      ¬ isolated (at' a 0#32) ∧ ⟨"spu", 0x1F801C00, 0x280⟩ ∈ (at' a 0#32).cfg.externalRanges ∧
      inRange ((at' a 0#32).ea 1#5 0#16) ⟨"spu", 0x1F801C00, 0x280⟩) ∧
    (withCalls { base with cycles := base.cycles + base.cfg.dataAccessCycles }).turnAllowed :=
  ⟨by decide, by (simp only [each]; repeat' apply And.intro) <;> decide, (witness_turnAllowed _ (by decide)).1⟩

theorem witness_InterruptRegisterStores :
    (Instr.sh 3#5 1#5 0#16).plainStore = some (lw' .half false) ∧ (lw' .half false).width ≠ .byte ∧
    (each [0x1F801070#32, 0x1F801072#32, 0x9F801074#32, 0xBF801076#32] fun a => (at' a 0#32).cfg.wf = true ∧
      alignedTo .half ((at' a 0#32).ea 1#5 0#16) ∧ ¬ isolated (at' a 0#32)) ∧
    virtPhys ((at' 0x1F801070#32 0#32).ea 1#5 0#16) = 0x1F801070 ∧ virtPhys ((at' 0x1F801072#32 0#32).ea 1#5 0#16) = 0x1F801072 ∧
    virtPhys ((at' 0x9F801074#32 0#32).ea 1#5 0#16) = 0x1F801074 ∧
    virtPhys ((at' 0xBF801076#32 0#32).ea 1#5 0#16) = 0x1F801076 := by (simp only [each]; repeat' apply And.intro) <;> decide

/-- An offset of the DMA window is at most one clause's: a clause each for the registers at both ends, and the cycle bound. -/
theorem witness_DmaRegisterStores :
    (each [(0x1F801080#32, 16 * 0), (0x1F8010E0#32, 16 * 6), (0x1F801084#32, 16 * 0 + 4), (0x1F8010E4#32, 16 * 6 + 4),
        (0x1F801088#32, 16 * 0 + 8), (0x1F8010E8#32, 16 * 6 + 8), (0x1F80108C#32, 16 * 0 + 12), (0x1F8010EC#32, 16 * 6 + 12),
        (0x1F8010F0#32, 0x70), (0x1F8010F4#32, 0x74), (0x1F8010F8#32, 0x78), (0x1F8010FC#32, 0x7C)] fun p =>
      (at' p.1 0#32).cfg.wf = true ∧ ((at' p.1 0#32).ea 1#5 0#16).toNat % 4 = 0 ∧ ¬ isolated (at' p.1 0#32) ∧
      inDma ((at' p.1 0#32).ea 1#5 0#16) ∧ virtPhys ((at' p.1 0#32).ea 1#5 0#16) - 0x1F801080 = p.2) ∧
    2 ^ 64 - 19 + base.cfg.dataAccessCycles + base.cfg.dmaIrqDelay < 2 ^ 64 - 1 := by
  (simp only [each]; repeat' apply And.intro) <;> decide

theorem witness_DmaRegisterStores_inactive (k : Fin 7) :
    ¬ (base.chans.set 6 { base.chans[6] with chcr := 0x01000000#32 })[k].startsTransfer := by
  revert k; unfold Channel.startsTransfer; decide

theorem witness_RefusedAccesses :
    (each [0xBF800000#32, 0xBF8003FC#32] fun a => (at' a 0#32).cfg.wf = true ∧ ¬ isolated (at' a 0#32) ∧
      alignedTo .word ((at' a 0#32).ea 1#5 0#16) ∧ inScratch ((at' a 0#32).ea 1#5 0#16) ∧ inKseg1 ((at' a 0#32).ea 1#5 0#16) ∧
      inScratch (BitVec.ofNat 32 (((at' a 0#32).ea 1#5 0#16).toNat / 4 * 4)) ∧
      inKseg1 (BitVec.ofNat 32 (((at' a 0#32).ea 1#5 0#16).toNat / 4 * 4))) ∧
    (each [0x1F801070#32, 0x1F801077#32] fun a => inIrq ((at' a 0#32).ea 1#5 0#16) ∧ (lw' .byte false).width = .byte) ∧
    (each [0x1F801080#32, 0x1F8010FE#32] fun a => inDma ((at' a 0#32).ea 1#5 0#16) ∧ alignedTo .half ((at' a 0#32).ea 1#5 0#16)) ∧
    (each [0x00800000#32, 0x1FC00000#32, 0x1F8010F0#32, 0xFFFFFFFF#32] fun a =>
      ¬ inRam (at' a 0#32) (BitVec.ofNat 32 (((at' a 0#32).ea 1#5 0#16).toNat / 4 * 4)) ∧
      ¬ inScratch (BitVec.ofNat 32 (((at' a 0#32).ea 1#5 0#16).toNat / 4 * 4))) := by (simp only [each]; repeat' apply And.intro) <;> decide

theorem witness_SegmentsMirror : (0x1FFFFFFF : Nat) < 0x20000000 := by decide

theorem witness_WriteThenReadThroughAnyMirror :
    base.cfg.wf = true ∧ Memory.wf base.mem = true ∧ ¬ isolated base ∧
    each [(0x007FFFFC#32, 0x807FFFFC#32), (0x80000000#32, 0xA0000000#32), (0x1F8003FC#32, 0x9F8003FC#32)] fun p =>
      alignedTo .word p.1 ∧ virtPhys p.1 = virtPhys p.2 ∧ inStore base p.1 ∧ inStore base p.2 := by (simp only [each]; repeat' apply And.intro) <;> decide

theorem witness_TrapsAlwaysEnter : Instr.isReserved .resOp11 = true ∧ Instr.isReserved .resCop0Co3F = true := by decide

theorem witness_MoveFromCop0 : (0#5) ∉ [8#5, 12#5, 13#5, 14#5, 15#5] ∧ (31#5) ∉ [8#5, 12#5, 13#5, 14#5, 15#5] := by decide

theorem witness_Cop0Writes : (14#5) ≠ 12#5 ∧ (14#5) ≠ 13#5 ∧ (0#5) ≠ 12#5 ∧ (31#5) ≠ 13#5 := by decide

theorem witness_Cop2GroupByMode :
    base.cfg.cop2Mode = .refuse ∧ ({ Config.default with cop2Mode := .noOp } : Config).cop2Mode = .noOp ∧
    (Instr.cop2 0#26 = .cop2 0#26 ∨ Instr.cop2 0#26 = .lwc2 0#5 0#5 0#16 ∨ Instr.cop2 0#26 = .swc2 0#5 0#5 0#16) := by decide

/-- The poll by a software bit at each end, by the device line, and not at all. -/
theorem witness_InterruptPoll :
    let up (s : State) := s.sr.getLsbD 0 = true ∧ ∃ k, k < 8 ∧ s.sr.getLsbD (8 + k) = true ∧
      (s.cause.getLsbD (8 + k) = true ∨ (k = 2 ∧ ∃ n, n < 16 ∧ s.iStat.getLsbD n = true ∧ s.iMask.getLsbD n = true))
    up { base with sr := 0x0101#32, cause := 0x0100#32 } ∧ up { base with sr := 0x8001#32, cause := 0x8000#32 } ∧
    up { base with sr := 0x0401#32, iStat := 0x8000#16, iMask := 0x8000#16 } ∧
    ¬ up { base with sr := 0x0100#32, cause := 0x0100#32 } := by
  refine ⟨⟨by decide, 0, by decide, by decide, .inl (by decide)⟩, ⟨by decide, 7, by decide, by decide, .inl (by decide)⟩,
    ⟨by decide, 2, by decide, by decide, .inr ⟨rfl, 15, by decide, by decide, by decide⟩⟩, fun h => ?_⟩
  exact absurd h.1 (by decide)

theorem witness_Cop0ChangesOnlyByItsOwners : (∃ t, exec .rfe base = .next t) ∧ (∃ t, exec (.add 1#5 2#5 3#5) base = .next t) ∧
    (withEvent 100 (.ext 7)).nextWake ≤ (withEvent 100 (.ext 7)).cycles ∧
    (withEvent 100 (.ext 7)).dueEvent = some ⟨100, 0, .ext 7⟩ ∧ ∃ t, step (withEvent 100 (.ext 7)) = .next t :=
  ⟨⟨_, rfl⟩, ⟨_, rfl⟩, by decide, by decide, ⟨_, rfl⟩⟩

theorem witness_HiLoChangeOnlyByTheirOwners :
    (∃ t, exec (.mfhi 1#5) base = .next t) ∧ ∀ a b, Instr.mfhi 1#5 ≠ .mult a b ∧ Instr.mfhi 1#5 ≠ .multu a b ∧
      Instr.mfhi 1#5 ≠ .div a b ∧ Instr.mfhi 1#5 ≠ .divu a b ∧ Instr.mfhi 1#5 ≠ .mthi a ∧ Instr.mfhi 1#5 ≠ .mtlo a := by
  refine ⟨⟨_, rfl⟩, fun a b => ?_⟩
  simp

/-- Kernel mode, and user mode with every other bit of SR set. -/
theorem witness_ModeChecksNothing :
    (∀ rt, Instr.mtc0 3#5 12#5 ≠ .mfc0 rt 12#5) ∧ (0xFFBEFFFF#32).getLsbD 16 = base.sr.getLsbD 16 ∧
      (0xFFBEFFFF#32).getLsbD 22 = base.sr.getLsbD 22 ∧ (∃ t, exec (.mtc0 3#5 12#5) base = .next t) ∧
      exec (.lb 3#5 1#5 0#16) (at' 0x1F801070#32 0#32) = .refused .byteAccessToInterruptController := by
  refine ⟨fun rt => by simp, by decide, by decide, ⟨_, rfl⟩, rfl⟩

theorem witness_CollaboratorTurn : (withCalls base).turnAllowed ∧ 16 ≤ 16 ∧
    2 ^ 64 - 1 ≤ ({ base with cycles := 2 ^ 64 - 10 } : State).cycles + 9 :=
  ⟨(witness_turnAllowed _ (by decide)).1, by decide, by decide⟩

theorem witness_DueEventFiresOnce (p : Payload) (hp : p = .irq 15 ∨ p = .ext 7) :
    (withEvent 100 p).Inv ∧ (withEvent 100 p).refusalMark = false ∧
    (∃ e ∈ (withEvent 100 p).queue, e ≠ sentinelEvent ∧ e.target ≤ (withEvent 100 p).cycles ∧ e.payload = p ∧
      ∀ f ∈ (withEvent 100 p).queue, f ≠ e → e.target < f.target ∨ (e.target = f.target ∧ e.seq < f.seq)) ∧
    (withEvent 100 p).turnAllowed ∧ ∀ e ∈ (withEvent 99 p).queue, (withEvent 99 p).cycles < e.target := by
  refine ⟨witness_Inv p (by rcases hp with rfl | rfl <;> decide) _, rfl, ⟨⟨100, 0, p⟩, by simp [withEvent], ?_, ?_, rfl, ?_⟩, ?_, ?_⟩
  · simp [sentinelEvent, Config.maxCycle]
  · exact Nat.le_refl 100
  · intro f hf hne
    simp only [withEvent, List.mem_cons, List.not_mem_nil, or_false] at hf
    rcases hf with rfl | rfl
    · exact .inl (show 100 < 2 ^ 64 - 1 by decide)
    · exact absurd rfl hne
  · intro c hc; cases hc
  · intro e he
    simp only [withEvent, List.mem_cons, List.not_mem_nil, or_false] at he
    rcases he with rfl | rfl
    · simp only [withEvent]; decide
    · simp only [withEvent]; decide

theorem witness_CompletionRule : ({ base with cycles := 2 ^ 64 - 18 } : State).cycles + base.cfg.dmaIrqDelay < 2 ^ 64 - 1 := by decide

theorem witness_ActivationPassLaws : ∃ t, activationPass (dmaStart 2 0x80002004#32 2#32 0#32 0#32) = .ok t := ⟨_, rfl⟩

/-- Every sync mode and direction is one clause's. -/
theorem witness_ChannelAlgorithms :
    (0x11000000#32).toNat / 2 ^ 9 % 4 = 0 ∧ (0x01000200#32).toNat / 2 ^ 9 % 4 = 1 ∧
    ((0x01000401#32).toNat / 2 ^ 9 % 4 = 2 ∧ (0x01000401#32).toNat % 2 = 1) ∧
    ((0x01000400#32).toNat / 2 ^ 9 % 4 = 2 ∧ (0x01000400#32).toNat % 2 = 0) ∧ (0x01000600#32).toNat / 2 ^ 9 % 4 = 3 := by decide

theorem witness_OrderingTableClears : Memory.wf (start 0#32 0#32 0#32 0#32).mem = true := by decide

theorem witness_StoreRunsOrderingTable :
    let s := at' 0xBF8010E8#32 0x11000000#32
    s.cfg.wf = true ∧ Memory.wf s.mem = true ∧ ¬ isolated s ∧ virtPhys (s.ea 1#5 0#16) = 0x1F8010E8 ∧
    s.cycles + s.cfg.dataAccessCycles + s.cfg.dmaIrqDelay < 2 ^ 64 - 1 ∧
    ({ s.chans[6] with chcr := s.readReg 3#5 } : Channel).startsTransfer ∧ (s.readReg 3#5).toNat / 2 ^ 9 % 4 ≤ 1 ∧
    ∀ n : Fin 7, n ≠ 6 → ¬ s.chans[n].startsTransfer := by
  unfold Channel.startsTransfer; decide

/-- A node at 0 that ends the list at once, and in empty memory the node at 0 that leads to itself. -/
theorem witness_LinkedListWalk :
    (∃ t, linkedList (ramWords + 1) [] 0#32 { base with mem := [(2, 0x80#8)] } = .ok t) ∧ base.script = [] ∧
    (∃ ws, ListWalk [(2, 0x80#8)] [] (ramOffset 0#32) ws) ∧ ∀ ws, ¬ ListWalk base.mem [] (ramOffset 0#32) ws := by
  refine ⟨⟨_, rfl⟩, rfl, ⟨_, .last [] 0 (by simp) (by decide)⟩, fun ws h => ?_⟩
  generalize ho : ramOffset 0#32 = o at h
  have h0 : o = 0 := ho ▸ by decide
  subst h0
  cases h with
  | last _ _ _ hb => exact absurd hb (by decide)
  | node _ _ ws' _ _ hn =>
    have e : leNat base.mem 0 4 % 2 ^ 22 % 0x200000 / 4 * 4 = 0 := by decide
    rw [e] at hn
    cases hn with
    | last _ _ h2 _ => simp at h2
    | node _ _ _ h2 _ _ => simp at h2

theorem witness_MachineReset : (List.replicate 0x80000 (0#8 : Byte)).length = 0x80000 ∧ (List.replicate 3 (0#8 : Byte)).length ≠ 0x80000 ∧
    Memory.wf base.mem = true := by
  refine ⟨List.length_replicate, by decide, by decide⟩

theorem witness_BlockCopies : Memory.wf base.mem = true ∧ base.script = [] ∧
    (∃ t, blockCopy 2 true true 2 0x80002004#32 base = .ok t) ∧ ∃ t, blockCopy 3 false false 2 0x3000#32 base = .ok t :=
  ⟨by decide, rfl, ⟨_, rfl⟩, ⟨_, rfl⟩⟩

end Sys2Proof.Tests
end

section
/-! SUPPORT. The state after reset: what the accessors read there, and the statement of what reset leaves. -/

namespace Sys2Proof.Machine

/-- Every general register reads zero at reset, register 0 as in every state (10_state R41, R71). -/
@[simp] theorem State.reset_readReg (r : Reg) : State.reset.readReg r = 0#32 := by
  unfold State.readReg
  split
  · rfl
  · exact Vector.getElem_replicate r.isLt

/-- Every byte reads zero at reset, since memory lists no cell (70_reset_and_hazards R562, log 2). -/
@[simp] theorem State.reset_read (a : Nat) : Memory.read State.reset.mem a = 0#8 := Memory.read_nil a

/-- Every DMA channel's registers are zero at reset (10_state R71). -/
theorem State.reset_chans (n : Fin 7) : State.reset.chans[n] = ⟨0#32, 0#32, 0#32⟩ :=
  Vector.getElem_replicate n.isLt

/-- No interrupt is pending at reset, so bit 10 of Cause, which is live, is clear (10_state R54). -/
@[simp] theorem State.reset_irqPending : State.reset.irqPending = false := by decide

/-- Cause reads zero at reset: its stored part is zero and its live bit is clear (10_state R54, R71). -/
@[simp] theorem State.reset_causeValue : State.reset.causeValue = 0#32 := by
  have hstored : State.reset.cause = 0#32 := rfl
  simp [State.causeValue, hstored]

/-- Settles O10: the registers, memory, the DMA channels and the composed Cause by the accessor lemmas above, every
other clause by the field that `State.reset` (or `Config.default`) writes there. -/
theorem resetState : Obligations.ResetState := by
  unfold Obligations.ResetState
  exact ⟨State.reset_readReg, rfl, rfl, rfl, rfl, rfl, rfl, rfl, rfl, rfl, rfl, rfl, rfl, State.reset_causeValue, rfl, rfl,
    fun a _ => State.reset_read a, rfl, rfl, State.reset_chans, rfl, rfl, rfl, rfl, rfl, rfl, rfl, rfl, rfl, rfl, rfl⟩

end Sys2Proof.Machine
end

section
/-! SUPPORT. What one move of the driver loop is, what the elementary operations answer, and the statements about whole steps:
the invariant, ROM and the configuration, and the cycle counter (10_state R41 to R81, 60_exceptions R480 to R486). -/

namespace Sys2Proof.Machine

/-! ### The driver loop (70_reset_and_hazards R575) -/

/-- A step that answers a next state starts with no refusal recorded (10_state R69). -/
theorem refusalMark_of_step_next {s t : State} (ht : step s = .next t) : s.refusalMark = false := by
  cases hm : s.refusalMark with
  | false => rfl
  | true => simp [step, driverMove, hm] at ht

/-- Below the next deadline a step is a CPU step. -/
theorem step_eq_cpuStep {s : State} (hm : s.refusalMark = false) (hw : s.cycles < s.nextWake) : step s = cpuStep s := by
  simp [step, driverMove, hm, hw]

/-- At a deadline a step fires the event that is due. -/
theorem step_eq_fireEvent {s : State} {e : Event} (hm : s.refusalMark = false) (hw : s.nextWake ≤ s.cycles)
    (he : s.dueEvent = some e) : step s = fireEvent e s := by
  simp [step, driverMove, hm, Nat.not_lt.2 hw, he]

/-- A CPU step that answers a next state ends with the poll and the charge of a state that every property kept by the elementary
changes still holds of. -/
theorem cpuStep_next {s t : State} (ht : cpuStep s = .next t) :
    ∃ u : State, t = u.endStep ∧ ∀ P, Keeps P → P s → P u := by
  have ends {r : Result} (h : thenEndStep r = .next t) : ∃ u, r = .next u ∧ t = u.endStep := by
    cases r with
    | next u => cases h; exact ⟨u, rfl, rfl⟩
    | fault f => cases h
    | refused f => cases h
  simp only [cpuStep] at ht
  split at ht
  · split at ht
    · rename_i i v hf
      obtain ⟨u, hu, rfl⟩ := ends ht
      simp only [fetchInstr] at hf
      split at hf <;> cases hf
      exact ⟨u, rfl, fun P h hs => exec_keeps h (h.advance _ (h.charge _ _ (h.startStep _ hs))) hu⟩
    · cases ht
  · obtain ⟨u, hu, rfl⟩ := ends ht
    exact ⟨u, rfl, fun P h hs => raiseAt_keeps h (h.startStep _ hs) hu⟩

/-! ### What the elementary operations answer -/

/-- `triggerInterrupt` changes I_STAT alone (20_memory R123). -/
theorem triggerInterrupt_ok {n : Nat} {s t : State} (h : triggerInterrupt n s = .ok t) :
    t = { s with iStat := s.iStat ||| BitVec.twoPow 16 n } := by
  unfold triggerInterrupt at h
  split at h <;> cases h
  rfl

/-- `scheduleEvent` appends an entry below the sentinel under the next number, and lowers the next-wake value to it
(60_exceptions R482). -/
theorem scheduleEvent_ok {d : Nat} {p : Payload} {s t : State} (h : scheduleEvent d p s = .ok t) :
    s.cycles + d < Config.maxCycle ∧
      t = { s with
        queue := s.queue ++ [⟨s.cycles + d, s.seq, p⟩], seq := s.seq + 1, nextWake := min s.nextWake (s.cycles + d) } := by
  unfold scheduleEvent at h
  split at h <;> cases h
  exact ⟨by omega, rfl⟩

/-- What the firing of an event can change (60_exceptions R483, R484). -/
theorem fireEvent_frame {e : Event} {s t : State} (h : fireEvent e s = .next t) :
    t = { s with iStat := t.iStat, queue := t.queue, seq := t.seq, nextWake := t.nextWake, script := t.script } := by
  unfold fireEvent at h
  split at h <;> cases h
  rename_i hf
  revert hf
  cases e.payload with
  | irq n => intro hf; rw [triggerInterrupt_ok hf]; rfl
  | ext k => intro hf; rw [collaboratorTurn_frame hf]; rfl
  | sentinel => intro hf; cases hf; rfl

/-- An event that is due is not the sentinel, which never fires (60_exceptions R481, R484). -/
theorem dueEvent_not_sentinel {s : State} {e : Event} (h : s.dueEvent = some e) : e.payload ≠ .sentinel := by
  unfold State.dueEvent at h
  split at h
  · split at h <;> cases h
    rename_i hc
    exact hc.1
  · cases h

/-! ### ROM, the configuration, the refusal mark and the cycle counter -/

/-- `t` has the boot ROM, the configuration and the refusal mark of `s`, and a cycle counter no lower. -/
def Later (s t : State) : Prop :=
  s.cycles ≤ t.cycles ∧ (∀ a, 0x1FC00000 ≤ a → Memory.read t.mem a = Memory.read s.mem a) ∧ t.cfg = s.cfg ∧
    t.refusalMark = s.refusalMark

theorem Later.refl (s : State) : Later s s := ⟨Nat.le_refl _, fun _ _ => rfl, rfl, rfl⟩

/-- Of the elementary changes only a charge touches the cycle counter, and it adds (60_exceptions R480); only a store touches
memory, and it ends below the boot ROM (20_memory R108). -/
theorem keeps_later (s₀ : State) : Keeps (Later s₀) where
  charge _ _ h := ⟨Nat.le_add_right_of_le h.1, h.2⟩
  draw _ h := h
  setScript _ _ h := h
  record _ _ h := h
  trigger _ _ _ h ht := by rw [triggerInterrupt_ok ht]; exact h
  schedule _ _ _ _ _ h ht := by rw [(scheduleEvent_ok ht).2]; exact h
  acknowledge _ _ h := h
  setMask _ _ h := h
  setChannel _ _ _ h := h
  setDpcr _ _ h := h
  writeDicr _ _ _ h ht := by rw [updateMaster_frame ht]; exact h
  completeDicr _ _ _ h ht := by rw [updateMaster_frame ht]; exact h
  store s k v w hk h := by
    obtain ⟨hcycles, hrom, hrest⟩ := h
    refine ⟨hcycles, fun a ha => ?_, hrest⟩
    have hw : w.bytes ≤ 4 := by cases w <;> decide
    rw [← hrom a ha]
    exact Memory.read_writeVal_outside _ _ _ (by simp only [Config.romBase] at hk; omega)
  commit _ _ _ h := h
  startStep _ h := h
  advance _ h := h
  enter _ _ _ h := h
  transfer _ k _ h := by cases k <;> exact h
  setHiLo _ _ _ h := h
  setSr _ _ h := h
  writeCause _ _ h := h
  dequeue _ _ _ h := h
  rewake _ h := h

theorem step_later {s t : State} (ht : step s = .next t) : Later s t := step_keeps (keeps_later s) (Later.refl s) ht

/-- Settles O13: every elementary change keeps ROM, the configuration and the refusal mark, so a step does. -/
theorem stepKeepsRomAndConfiguration : Obligations.StepKeepsRomAndConfiguration := by
  unfold Obligations.StepKeepsRomAndConfiguration
  exact fun s t ht => (step_later ht).2

@[simp] theorem State.poll_cycles (s : State) : s.poll.cycles = s.cycles := by
  unfold State.poll; split <;> rfl

@[simp] theorem State.endStep_cycles (s : State) : s.endStep.cycles = s.cycles + s.cfg.cyclesPerInstr := by
  simp [State.endStep]

/-- A CPU step charges at least the cycles of an instruction (10_state R81). -/
theorem cpuStep_cycles {s t : State} (ht : cpuStep s = .next t) : s.cycles + s.cfg.cyclesPerInstr ≤ t.cycles := by
  obtain ⟨u, rfl, hu⟩ := cpuStep_next ht
  obtain ⟨hcycles, -, hcfg, -⟩ := hu _ (keeps_later s) (Later.refl s)
  rw [State.endStep_cycles, hcfg]
  omega

/-- Settles O14: by the induction over a step, the charge at the end of a CPU step, and the frame of a firing. -/
theorem cyclesNeverDecrease : Obligations.CyclesNeverDecrease := by
  unfold Obligations.CyclesNeverDecrease
  intro s t ht
  have hm := refusalMark_of_step_next ht
  refine ⟨(step_later ht).1, fun hw => ?_, fun ⟨e, hw, he⟩ => ?_⟩
  · exact cpuStep_cycles (step_eq_cpuStep hm hw ▸ ht)
  · have hf : fireEvent e s = .next t := step_eq_fireEvent hm hw he ▸ ht
    rw [fireEvent_frame hf]

/-! ### The invariant -/

/-- The part of the state that the invariant speaks of. -/
def State.invPart (s : State) : Config × Memory × Word × Word × Word × List Event × Nat × Nat :=
  (s.cfg, s.mem, s.regs[0], s.cause, s.dicr, s.queue, s.seq, s.nextWake)

/-- The invariant depends on that part alone. -/
theorem State.Inv.of_invPart {s t : State} (h : s.Inv) (e : t.invPart = s.invPart) : t.Inv := by
  simp only [State.invPart, Prod.mk.injEq] at e
  obtain ⟨hcfg, hmem, hreg, hcause, hdicr, hqueue, hseq, hwake⟩ := e
  obtain ⟨h1, h2, h3, h4, h5, h6, h7, h8, h9, h10⟩ := h
  constructor <;> simp only [hcfg, hmem, hreg, hcause, hdicr, hqueue, hseq, hwake] <;> assumption

/-- A register write leaves the cell of register 0 alone (10_state R41). -/
theorem writeFileOpt_zero (f : Vector Word 32) (w : Option RegWrite) : (writeFileOpt f w)[0] = f[0] := by
  cases w with
  | none => rfl
  | some q =>
    simp only [writeFileOpt, writeFile]
    split
    · rfl
    · rename_i hq
      rw [Vector.getElem_set_ne]
      intro h0
      exact hq (BitVec.eq_of_toNat_eq h0)

/-- A new entry of the queue keeps the invariant: it has the greatest number, and the next-wake value follows it
(60_exceptions R482). -/
theorem State.Inv.schedule {s t : State} {d : Nat} {p : Payload} (hp : p ≠ .sentinel) (h : s.Inv)
    (ht : scheduleEvent d p s = .ok t) : t.Inv := by
  obtain ⟨hlt, rfl⟩ := scheduleEvent_ok ht
  have below {e : Event} (he : e ∈ s.queue) (hne : e.payload ≠ .sentinel) : e.seq < s.seq :=
    (h.entries e he (fun hs => hne (hs ▸ rfl))).2.2
  refine { h with sentinel := ?_, entries := ?_, numbered := ?_, wake := ?_ }
  · exact List.mem_append_left _ h.sentinel
  · intro e he hne
    rcases List.mem_append.1 he with he | he
    · obtain ⟨hpay, htarget, hseq⟩ := h.entries e he hne
      exact ⟨hpay, htarget, Nat.lt_succ_of_lt hseq⟩
    · obtain rfl := List.mem_singleton.1 he
      exact ⟨hp, hlt, Nat.lt_succ_self _⟩
  · rw [List.filter_append, List.pairwise_append]
    refine ⟨h.numbered, List.Pairwise.filter _ (List.pairwise_singleton _ _), fun a ha b hb => ?_⟩
    obtain rfl := List.mem_singleton.1 (List.mem_filter.1 hb).1
    obtain ⟨ha, hpay⟩ := List.mem_filter.1 ha
    exact below ha (by simpa using hpay)
  · obtain ⟨hmem, hle⟩ := h.wake
    constructor
    · rw [List.map_append, List.mem_append]
      rcases Nat.le_total s.nextWake (s.cycles + d) with hm | hm
      · exact .inl (by rwa [Nat.min_eq_left hm])
      · exact .inr (by simp [Nat.min_eq_right hm])
    · intro e he
      rcases List.mem_append.1 he with he | he
      · exact Nat.le_trans (Nat.min_le_left _ _) (hle e he)
      · obtain rfl := List.mem_singleton.1 he
        exact Nat.min_le_right _ _

/-- The removal of the event that is due keeps the invariant: the sentinel is never due (60_exceptions R481, R484, R485). -/
theorem State.Inv.dequeue {s : State} {e : Event} (he : s.dueEvent = some e) (h : s.Inv) : (s.dequeue e).Inv := by
  have hsent : sentinelEvent ∈ s.queue.erase e :=
    (List.mem_erase_of_ne (fun hs : sentinelEvent = e => dueEvent_not_sentinel he (hs ▸ rfl))).2 h.sentinel
  exact { h with
    sentinel := hsent
    entries := fun f hf => h.entries f (List.mem_of_mem_erase hf)
    numbered := h.numbered.sublist (List.Sublist.filter _ List.erase_sublist)
    wake := leastTarget_least _ (List.ne_nil_of_mem hsent) }

/-! ### DICR and Cause -/

/-- DICR with its master flag has the bits of before below bit 31, and the master value there (60_exceptions R511). -/
theorem withMaster_bit (d : Word) (k : Nat) :
    (withMaster d).getLsbD k = if k = 31 then masterValue d else d.getLsbD k := by
  by_cases hk : k < 32
  · simp only [withMaster, BitVec.getLsbD_or, BitVec.getLsbD_and]
    cases masterValue d <;> interval_cases k <;> simp
  · rw [if_neg (by omega), BitVec.getLsbD_of_ge _ _ (by omega), BitVec.getLsbD_of_ge _ _ (by omega)]

/-- The master value depends on the bits below 31 alone (60_exceptions R510). -/
theorem masterValue_withMaster (d : Word) : masterValue (withMaster d) = masterValue d := by
  have hfield (k n : Nat) (hk : k + n ≤ 31) : (withMaster d).extractLsb' k n = d.extractLsb' k n := by
    apply BitVec.eq_of_getLsbD_eq
    intro i hi
    simp only [BitVec.getLsbD_extractLsb', withMaster_bit, if_neg (show k + i ≠ 31 by omega)]
  rw [masterValue, hfield 16 7 (by omega), hfield 24 7 (by omega), withMaster_bit, withMaster_bit]
  rfl

/-- The masked bits of a join are those of its parts. -/
theorem or_and_eq_zero {x y m : Word} (hx : x &&& m = 0#32) (hy : y &&& m = 0#32) : (x ||| y) &&& m = 0#32 := by
  rw [BitVec.and_or_distrib_right, hx, hy]
  rfl

/-- A mask that has no bit of another in it keeps nothing of a word cut to that other. -/
theorem and_and_eq_zero (x : Word) {a b : Word} (h : a &&& b = 0#32) : x &&& a &&& b = 0#32 := by
  rw [BitVec.and_assoc, h, BitVec.and_zero]

/-- A new DICR whose bits 14:6 are zero keeps the invariant, with its master flag recomputed and the interrupt of its rise
queued (60_exceptions R507, R511, R512). -/
theorem State.Inv.updateMaster {d : Word} {s t : State} (h : s.Inv) (hd : d &&& 0x00007FC0#32 = 0#32)
    (ht : updateMaster d s = .ok t) : t.Inv := by
  have hreserved : withMaster d &&& 0x00007FC0#32 = 0#32 := by
    refine or_and_eq_zero ?_ (by split <;> rfl)
    rw [BitVec.and_assoc, BitVec.and_comm _ 0x00007FC0#32, ← BitVec.and_assoc, hd, BitVec.zero_and]
  have hset : ({ s with dicr := withMaster d } : State).Inv :=
    { h with
      dicrReserved := hreserved
      dicrMaster := by rw [masterValue_withMaster, withMaster_bit, if_pos rfl] }
  unfold Machine.updateMaster at ht
  split at ht
  · exact hset.schedule (by simp) ht
  · cases ht; exact hset

/-- A CPU write to DICR leaves bits 14:6 zero (60_exceptions R508). -/
theorem dicrWritten_reserved (old v : Word) : dicrWritten old v &&& 0x00007FC0#32 = 0#32 :=
  or_and_eq_zero (or_and_eq_zero (and_and_eq_zero _ rfl) (and_and_eq_zero _ rfl)) (and_and_eq_zero _ rfl)

/-- The completion of a channel leaves bits 14:6 of DICR as they were (60_exceptions R519). -/
theorem dicrCompleted_reserved (n : Fin 7) {d : Word} (hd : d &&& 0x00007FC0#32 = 0#32) :
    dicrCompleted n d &&& 0x00007FC0#32 = 0#32 := by
  have hpending : ∀ k : Fin 7, BitVec.twoPow 32 (24 + k.val) &&& 0x00007FC0#32 = 0#32 := by decide
  unfold dicrCompleted
  split
  · exact or_and_eq_zero hd (hpending n)
  · exact hd

/-- A write of Cause by MTC0 leaves the reserved bits zero (10_state R54). -/
theorem State.Inv.writeCause {s : State} (h : s.Inv) (v : Word) : (cop0Write 13#5 v s).Inv :=
  { h with
    causeReserved := by
      refine or_and_eq_zero ?_ (and_and_eq_zero _ rfl)
      rw [BitVec.and_assoc, BitVec.and_comm _ 0x3FFFFC83#32, ← BitVec.and_assoc, h.causeReserved, BitVec.zero_and] }

/-- Every elementary change keeps the invariant. -/
theorem keeps_inv : Keeps State.Inv where
  charge _ _ h := h.of_invPart rfl
  draw _ h := h.of_invPart rfl
  setScript _ _ h := h.of_invPart rfl
  record _ _ h := h.of_invPart rfl
  trigger _ _ _ h ht := h.of_invPart (by rw [triggerInterrupt_ok ht]; rfl)
  schedule _ _ _ _ hp h ht := h.schedule hp ht
  acknowledge _ _ h := h.of_invPart rfl
  setMask _ _ h := h.of_invPart rfl
  setChannel _ _ _ h := h.of_invPart rfl
  setDpcr _ _ h := h.of_invPart rfl
  writeDicr _ _ _ h ht := h.updateMaster (dicrWritten_reserved _ _) ht
  completeDicr _ n _ h ht := h.updateMaster (dicrCompleted_reserved n h.dicrReserved) ht
  store _ _ _ _ _ h := { h with memWf := Memory.wf_writeVal h.memWf _ _ _ }
  commit _ _ _ h := { h with regZero := by rw [State.commit_regs, writeFileOpt_zero, writeFileOpt_zero, h.regZero] }
  startStep _ h := h.of_invPart rfl
  advance _ h := h.of_invPart rfl
  enter _ _ _ h := { h with causeReserved := entryCause_reserved _ _ _ _ _ }
  transfer _ k _ h := h.of_invPart (by cases k <;> rfl)
  setHiLo _ _ _ h := h.of_invPart rfl
  setSr _ _ h := h.of_invPart rfl
  writeCause _ v h := h.writeCause v
  dequeue _ _ he h := h.dequeue he
  rewake _ h := { h with wake := leastTarget_least _ (List.ne_nil_of_mem h.sentinel) }

/-- Settles O12: every elementary change keeps the invariant, so a step does. -/
theorem stepKeepsInvariant : Obligations.StepKeepsInvariant := by
  unfold Obligations.StepKeepsInvariant
  intro s t hs ht
  exact step_keeps keeps_inv hs ht

/-- Settles O11: at reset the queue holds the sentinel alone, and every other clause is a closed fact. -/
theorem resetMeetsInvariant : Obligations.ResetMeetsInvariant where
  cfgWf := by decide
  memWf := rfl
  regZero := rfl
  causeReserved := rfl
  dicrReserved := rfl
  dicrMaster := rfl
  sentinel := List.mem_singleton_self _
  entries _ he hne := absurd (List.mem_singleton.1 he) hne
  numbered := by decide
  wake := by decide

end Sys2Proof.Machine
end

section
/-! SUPPORT. The end of an instruction: the commit (10_state R77), the entry of an exception (R80), the interrupt poll (R79), and the
CPU step made of them (R72). -/

namespace Sys2Proof.Machine

/-! ### The commit -/

/-- A register of a file: register 0 reads zero (10_state R41). -/
def readFile (f : Vector Word 32) (r : Reg) : Word := if r = 0#5 then 0#32 else f[r.toNat]

theorem State.readReg_eq_readFile (s : State) (r : Reg) : s.readReg r = readFile s.regs r := rfl

/-- What a read of another register than 0 sees in a file with one register written. -/
theorem readFile_writeFile {r : Reg} (hr : r ≠ 0#5) (f : Vector Word 32) (i : Reg) (v : Word) :
    readFile (writeFile f i v) r = if i = r then v else readFile f r := by
  refine (readReg_writeFile { State.reset with regs := f } i r v).trans ?_
  rw [if_neg hr]
  simp only [eq_comm (a := r)]
  rfl

/-- What a read sees once the pending load of a step has come into the register file. -/
theorem readFile_committing {r : Reg} (hr : r ≠ 0#5) (s : State) (l : Option RegWrite) :
    readFile (writeFileOpt s.regs (s.committing l)) r = loadedReg s l r := by
  unfold State.committing loadedReg
  cases s.pending with
  | none => rfl
  | some p =>
    cases l with
    | none => simp [writeFileOpt, readFile_writeFile hr, State.readReg_eq_readFile]
    | some q =>
      by_cases hq : q.reg = p.reg
      · simp [hq, writeFileOpt, State.readReg_eq_readFile]
      · have hother : (p.reg = r ∧ q.reg ≠ r) ↔ p.reg = r := and_iff_left_of_imp fun h => h ▸ hq
        simp [hq, writeFileOpt, readFile_writeFile hr, State.readReg_eq_readFile, hother]

/-- The commit is the one the spec describes, and changes nothing but the register file and the pending load (10_state R77). -/
theorem State.commit_endsWith (s : State) (w l : Option RegWrite) : EndsWith s (s.commit w l) w l where
  regs r := by
    by_cases hr : r = 0#5
    · subst hr; rfl
    · simp only [committedReg, if_neg hr, ← readFile_committing hr]
      cases w with
      | none => rfl
      | some q => exact readFile_writeFile hr _ q.reg q.val
  pending := rfl
  frame := rfl

/-- Settles O15: the commit by its law; a write to register 0 leaves the file, so it commits as no write, and a pending load of
register 0 as none. -/
theorem commitOrder : Obligations.CommitOrder := by
  unfold Obligations.CommitOrder
  refine fun s w l => ⟨s.commit_endsWith w l, s.readReg_zero, fun v => rfl, fun v => ?_⟩
  cases l with
  | none => rfl
  | some q =>
    by_cases hq : q.reg = 0#5
    · simp [State.commit, State.committing, hq]
    · simp [State.commit, State.committing, hq, writeFileOpt, writeFile]

/-! ### Raising an exception -/

/-- The entry of an exception, and the commit with no write and no load of the step, are what the spec calls raising it. -/
theorem State.enter_commit_raises (s : State) (c : Exc) (ba : Word) : Raises s ((s.enter c ba).commit none none) c ba :=
  ⟨_, s.enter_entered c ba, State.commit_endsWith _ _ _⟩

theorem raiseAt_raises (c : Exc) (ba : Word) (s : State) : ∃ t, raiseAt c ba s = .next t ∧ Raises s t c ba :=
  ⟨_, rfl, s.enter_commit_raises c ba⟩

theorem load_misaligned {w : Width} {a : Word} (h : ¬ alignedTo w a) (ext : Word → Word) (rt : Reg) (s : State) :
    load w ext rt a s = raiseAt .adEL a s := by
  rw [load, if_neg (mt (aligned_iff w a).1 h)]

theorem store_misaligned {w : Width} {a : Word} (h : ¬ alignedTo w a) (rt : Reg) (s : State) :
    store w rt a s = raiseAt .adES a s := by
  rw [store, if_neg (mt (aligned_iff w a).1 h)]

/-- A plain load is a load of its form's width, register and address. -/
theorem exec_plainLoad {i : Instr} {f : AccessForm} (h : i.plainLoad = some f) :
    ∃ ext, ∀ s, exec i s = load f.width ext f.rt (s.ea f.rs f.imm) s := by
  unfold Instr.plainLoad at h
  split at h <;> cases h
  · exact ⟨sextByte, fun _ => rfl⟩
  · exact ⟨id, fun _ => rfl⟩
  · exact ⟨sextHalf, fun _ => rfl⟩
  · exact ⟨id, fun _ => rfl⟩
  · exact ⟨id, fun _ => rfl⟩

/-- A plain store is a store of its form's width, register and address. -/
theorem exec_plainStore {i : Instr} {f : AccessForm} (h : i.plainStore = some f) (s : State) :
    exec i s = store f.width f.rt (s.ea f.rs f.imm) s := by
  unfold Instr.plainStore at h
  split at h <;> cases h <;> rfl

/-- Settles O30: a misaligned load or store is its address error, before any access. -/
theorem misalignedAccessesRaise : Obligations.MisalignedAccessesRaise := by
  unfold Obligations.MisalignedAccessesRaise
  refine fun s i f h => ⟨fun hi => ?_, fun hi => ?_⟩
  · obtain ⟨ext, hexec⟩ := exec_plainLoad hi
    rw [hexec, load_misaligned h]
    exact raiseAt_raises _ _ _
  · rw [exec_plainStore hi, store_misaligned h]
    exact raiseAt_raises _ _ _

/-! ### The interrupt poll -/

/-- A bit vector is not zero exactly when one of its bits is set. -/
theorem ne_zero_iff_bit {n : Nat} (x : BitVec n) : x ≠ 0#n ↔ ∃ k, k < n ∧ x.getLsbD k = true := by
  constructor
  · intro h
    by_contra hc
    push Not at hc
    exact h (BitVec.eq_of_getLsbD_eq fun k hk => by simpa using hc k hk)
  · rintro ⟨k, -, hk⟩ rfl
    simp at hk

theorem State.irqPending_iff (s : State) :
    s.irqPending = true ↔ ∃ n, n < 16 ∧ s.iStat.getLsbD n = true ∧ s.iMask.getLsbD n = true := by
  rw [State.irqPending, bne_iff_ne, ne_zero_iff_bit]
  simp

/-- Cause as every read sees it: the stored bit, or for bit 10 also the interrupt line (10_state R54). -/
theorem State.causeValue_bit (s : State) {k : Nat} (hk : k < 32) :
    s.causeValue.getLsbD k = (s.cause.getLsbD k || (k == 10 && s.irqPending)) := by
  rw [State.causeValue, BitVec.getLsbD_or]
  congr 1
  cases s.irqPending with
  | false => simp
  | true => interval_cases k <;> rfl

/-- The poll takes an interrupt exactly when interrupts are enabled and some enabled line is up (10_state R79). -/
theorem State.interruptTaken_iff (s : State) :
    s.interruptTaken = true ↔ s.sr.getLsbD 0 = true ∧ ∃ k, k < 8 ∧ s.sr.getLsbD (8 + k) = true ∧
      (s.cause.getLsbD (8 + k) = true ∨ (k = 2 ∧ s.irqPending = true)) := by
  have line {k : Nat} (hk : k < 8) : (s.im &&& s.ip).getLsbD k = true ↔
      s.sr.getLsbD (8 + k) = true ∧ (s.cause.getLsbD (8 + k) = true ∨ (k = 2 ∧ s.irqPending = true)) := by
    simp only [State.im, State.ip, BitVec.getLsbD_and, BitVec.getLsbD_extractLsb', hk,
      s.causeValue_bit (show 8 + k < 32 by omega)]
    simp [show 8 + k = 10 ↔ k = 2 by omega]
  rw [State.interruptTaken, State.iec, Bool.and_eq_true, bne_iff_ne, ne_zero_iff_bit]
  exact and_congr_right fun _ => exists_congr fun k => and_congr_right line

/-- Settles O45: the poll enters Int when an interrupt is taken, and does nothing otherwise. -/
theorem interruptPoll : Obligations.InterruptPoll := by
  unfold Obligations.InterruptPoll
  intro s
  simp only [← s.irqPending_iff, ← s.interruptTaken_iff, State.poll]
  refine ⟨fun h => ?_, fun h => if_neg h⟩
  rw [if_pos h]
  exact s.enter_entered .int _

/-! ### The CPU step -/

/-- After an exception entry interrupts are disabled, so the poll of that step takes none (10_state R49). -/
theorem State.poll_enter_commit (s : State) (c : Exc) (ba : Word) (w l : Option RegWrite) :
    ((s.enter c ba).commit w l).poll = (s.enter c ba).commit w l := by
  have hiec : ((s.enter c ba).commit w l).iec = false := pushMode_bit s.sr 0
  simp [State.poll, State.interruptTaken, hiec]

/-- Settles O3: the fetch raises AdEL at the misaligned pc, and the poll after it takes no interrupt. -/
theorem misalignedFetchRaises : Obligations.MisalignedFetchRaises := by
  unfold Obligations.MisalignedFetchRaises
  intro s hm hw hpc
  have hodd : ¬ aligned .word s.startStep.pc = true := mt (aligned_iff .word s.pc).1 hpc
  refine ⟨_, ?_, s.startStep.enter_commit_raises .adEL s.pc⟩
  rw [step_eq_cpuStep hm hw, cpuStep, if_neg hodd, raiseAt, finish, thenEndStep, State.endStep, State.poll_enter_commit]
  rfl

/-- Settles O1: the fetch finds and decodes the four bytes, and the configuration, which the charge at the end reads, stands. -/
theorem stepRunsTheDecodedInstruction : Obligations.StepRunsTheDecodedInstruction := by
  unfold Obligations.StepRunsTheDecodedInstruction
  intro s k c i hm hw hpc hplace hdecode
  have heven : aligned .word s.startStep.pc = true := (aligned_iff .word s.pc).2 hpc
  have hfetch : fetchInstr s.startStep.pc s.startStep = .ok (i, s.startStep.charge c) := by
    simp only [decodeBytes, Except.ok.injEq, Prod.mk.injEq, and_true] at hdecode
    simp only [fetchInstr, State.startStep_pc, State.startStep_cfg, hplace, State.startStep_mem, Memory.readVal, hdecode]
  rw [step_eq_cpuStep hm hw, cpuStep, if_pos heven, hfetch]
  change thenEndStep (exec i (s.startStep.charge c).advance) = match exec i (s.startStep.charge c).advance with
    | .next t => _ | .fault f => _ | .refused r => _
  cases hx : exec i (s.startStep.charge c).advance with
  | next t =>
    have hstart : Later s (s.startStep.charge c).advance := (keeps_later s).charge _ c (Later.refl s)
    obtain ⟨-, -, hcfg, -⟩ := exec_keeps (keeps_later s) hstart hx
    simp only [thenEndStep, State.endStep, State.charge, hcfg]
  | fault f => rfl
  | refused r => rfl

end Sys2Proof.Machine
end

section
/-! SUPPORT. The forms of the meanings: every instruction's meaning is one of a few, whose operands and conditions do not depend on
SR. What an instruction does to HI, LO and the COP0 registers, and what it sees of SR, is then read off the form. -/

namespace Sys2Proof.Machine

/-- A reading of the state that does not depend on SR. -/
def SrFree {α : Type} (f : State → α) : Prop := ∀ s v, f (s.withSr v) = f s

/-- The six instructions that own HI and LO (41_muldiv). -/
def OwnsHiLo (i : Instr) : Prop :=
  ∃ a b, i = .mult a b ∨ i = .multu a b ∨ i = .div a b ∨ i = .divu a b ∨ i = .mthi a ∨ i = .mtlo a

/-- The form of an instruction's meaning. -/
inductive Form : Instr → (State → Result) → Prop where
  /-- A register write. -/
  | write {i} (r : Reg) (f : State → Word) : SrFree f → Form i (fun s => writeBack r (f s) s)
  /-- A register write, or a trap under a condition. -/
  | writeOrTrap {i} (r : Reg) (k : State → Bool) (f : State → Word) : SrFree k → SrFree f →
      Form i (fun s => if k s then raise .ov s else writeBack r (f s) s)
  | trap {i} (c : Exc) : c ≠ .int → Form i (raise c)
  | branch {i} (k : State → Bool) (a : State → Word) : SrFree k → SrFree a → Form i (fun s => branch (k s) (a s) s)
  | branchLink {i} (r : Reg) (k : State → Bool) (a : State → Word) : SrFree k → SrFree a →
      Form i (fun s => branchLink r (k s) (a s) s)
  | hiLo {i} (h l : State → Word) : OwnsHiLo i → SrFree h → SrFree l → Form i (fun s => finish (s.setHiLo (h s) (l s)))
  | load {i} (w : Width) (ext : Word → Word) (rt rs : Reg) (imm : Half) : Form i (fun s => load w ext rt (s.ea rs imm) s)
  | loadPartial {i} (merge : BitVec 2 → Word → Word → Word) (rt rs : Reg) (imm : Half) :
      Form i (fun s => loadPartial merge rt (s.ea rs imm) s)
  | store {i} (w : Width) (rt rs : Reg) (imm : Half) : Form i (fun s => store w rt (s.ea rs imm) s)
  | storeMerged {i} (merge : BitVec 2 → Word → Word → Word) (rt rs : Reg) (imm : Half) :
      Form i (fun s => storeMerged merge rt (s.ea rs imm) s)
  | mfc0 (rt rd : Reg) : Form (.mfc0 rt rd) (execMfc0 rt rd)
  | mtc0 (rt rd : Reg) : Form (.mtc0 rt rd) (execMtc0 rt rd)
  | rfe : Form .rfe execRfe
  | cop2 {i} : Form i cop2Word

/-- Every instruction's meaning has one of the forms; the instructions of the last case are the reserved encodings. -/
theorem exec_form (i : Instr) : Form i (exec i) := by
  cases i with
  | sll | srl | sra | sllv | srlv | srav | addu | subu | and | or | xor | nor | slt | sltu | addiu | slti | sltiu | andi | ori
  | xori | lui | mfhi | mflo => exact .write _ _ (fun _ _ => rfl)
  | add | sub | addi => exact .writeOrTrap _ _ _ (fun _ _ => rfl) (fun _ _ => rfl)
  | syscall => exact .trap .sys (by decide)
  | brk => exact .trap .bp (by decide)
  | j | jr | beq | bne | blez | bgtz | bltz | bgez | bltzRt02 | bgezRt03 | bltzRt04 | bgezRt05 | bltzRt06 | bgezRt07 | bltzRt08
  | bgezRt09 | bltzRt0A | bgezRt0B | bltzRt0C | bgezRt0D | bltzRt0E | bgezRt0F | bltzRt12 | bgezRt13 | bltzRt14 | bgezRt15
  | bltzRt16 | bgezRt17 | bltzRt18 | bgezRt19 | bltzRt1A | bgezRt1B | bltzRt1C | bgezRt1D | bltzRt1E | bgezRt1F =>
    exact .branch _ _ (fun _ _ => rfl) (fun _ _ => rfl)
  | jal | jalr | bltzal | bgezal => exact .branchLink _ _ _ (fun _ _ => rfl) (fun _ _ => rfl)
  | mult rs rt => exact .hiLo _ _ ⟨rs, rt, by simp⟩ (fun _ _ => rfl) (fun _ _ => rfl)
  | multu rs rt => exact .hiLo _ _ ⟨rs, rt, by simp⟩ (fun _ _ => rfl) (fun _ _ => rfl)
  | div rs rt => exact .hiLo _ _ ⟨rs, rt, by simp⟩ (fun _ _ => rfl) (fun _ _ => rfl)
  | divu rs rt => exact .hiLo _ _ ⟨rs, rt, by simp⟩ (fun _ _ => rfl) (fun _ _ => rfl)
  | mthi rs => exact .hiLo (fun s => s.readReg rs) State.lo ⟨rs, rs, by simp⟩ (fun _ _ => rfl) (fun _ _ => rfl)
  | mtlo rs => exact .hiLo State.hi (fun s => s.readReg rs) ⟨rs, rs, by simp⟩ (fun _ _ => rfl) (fun _ _ => rfl)
  | lb rt rs imm => exact .load .byte sextByte rt rs imm
  | lbu rt rs imm => exact .load .byte id rt rs imm
  | lh | lhu | lw => exact .load _ _ _ _ _
  | lwl | lwr => exact .loadPartial _ _ _ _
  | sb rt rs imm => exact .store .byte rt rs imm
  | sh | sw => exact .store _ _ _ _
  | swl | swr => exact .storeMerged _ _ _ _
  | mfc0 rt rd => exact .mfc0 rt rd
  | mtc0 rt rd => exact .mtc0 rt rd
  | rfe => exact .rfe
  | cop2 | lwc2 | swc2 => exact .cop2
  | _ => exact .trap .ri (by decide)

/-! ### HI, LO and the COP0 registers (10_state R44 to R46) -/

/-- HI, LO and the four COP0 registers. -/
def State.special (s : State) : Word × Word × Word × Word × Word × Word :=
  (s.hi, s.lo, s.sr, s.cause, s.epc, s.badVaddr)

/-- No data access touches them, whatever DMA or a collaborator does in it. -/
theorem busKeeps_special (s₀ : State) : BusKeeps (fun u => u.special = s₀.special) where
  charge _ _ h := h
  draw _ h := h
  setScript _ _ h := h
  record _ _ h := h
  trigger _ _ _ h ht := by rw [triggerInterrupt_ok ht]; exact h
  schedule _ _ _ _ _ h ht := by rw [(scheduleEvent_ok ht).2]; exact h
  acknowledge _ _ h := h
  setMask _ _ h := h
  setChannel _ _ _ h := h
  setDpcr _ _ h := h
  writeDicr _ _ _ h ht := by rw [updateMaster_frame ht]; exact h
  completeDicr _ _ _ h ht := by rw [updateMaster_frame ht]; exact h
  store _ _ _ _ _ h := h

/-- How an instruction ends, as far as HI, LO and the COP0 registers go. -/
inductive Ends (i : Instr) (s : State) : State → Prop where
  /-- They are as before. -/
  | commit (u : State) (w l : Option RegWrite) : u.special = s.special → Ends i s (u.commit w l)
  | raised (c : Exc) (ba : Word) : c ≠ .int → Ends i s ((s.enter c ba).commit none none)
  | hiLo (h l : Word) : OwnsHiLo i → Ends i s ((s.setHiLo h l).commit none none)
  | mtc0 (rt rd : Reg) : i = .mtc0 rt rd → Ends i s ((cop0Write rd (s.readReg rt) s).commit none none)
  | rfe : i = .rfe → Ends i s (s.returnFromException.commit none none)

theorem Form.ends {i : Instr} {m : State → Result} (h : Form i m) {s t : State} (ht : m s = .next t) : Ends i s t := by
  have bus := busKeeps_special s
  cases h with
  | write r f => cases ht; exact .commit s _ _ rfl
  | writeOrTrap r k f =>
    dsimp only at ht
    split at ht <;> cases ht
    · exact .raised .ov _ (by decide)
    · exact .commit s _ _ rfl
  | trap c hc => cases ht; exact .raised c _ hc
  | branch k a => cases ht; exact .commit _ _ _ (by simp [State.special])
  | branchLink r k a => cases ht; exact .commit _ _ _ (by simp [State.special])
  | hiLo h l hi => cases ht; exact .hiLo _ _ hi
  | load w ext rt rs imm =>
    simp only [Machine.load] at ht
    split at ht
    · split at ht <;> cases ht
      exact .commit _ _ _ (memRead_keeps bus rfl ‹_›)
    · cases ht; exact .raised .adEL _ (by decide)
  | loadPartial merge rt rs imm =>
    simp only [Machine.loadPartial] at ht
    split at ht <;> cases ht
    exact .commit _ _ _ (memRead_keeps bus rfl ‹_›)
  | store w rt rs imm =>
    simp only [Machine.store] at ht
    split at ht
    · split at ht <;> cases ht
      exact .commit _ _ _ (memWrite_keeps bus rfl ‹_›)
    · cases ht; exact .raised .adES _ (by decide)
  | storeMerged merge rt rs imm =>
    simp only [Machine.storeMerged] at ht
    split at ht <;> cases ht
    exact .commit _ _ _ (storePartial_keeps bus rfl ‹_›)
  | mfc0 rt rd =>
    cases ht
    refine .commit _ _ _ ?_
    unfold cop0Read
    split <;> rfl
  | mtc0 rt rd => cases ht; exact .mtc0 rt rd rfl
  | rfe => cases ht; exact .rfe rfl
  | cop2 =>
    simp only [cop2Word] at ht
    split at ht <;> cases ht
    exact .commit s _ _ rfl

/-- The interrupt poll enters Int or does nothing (10_state R79). -/
theorem State.poll_cases (s : State) : s.poll = s.enter .int 0#32 ∨ s.poll = s := by
  unfold State.poll
  split
  · exact .inl rfl
  · exact .inr rfl

/-- MTC0 writes nothing for a number other than 12 and 13 (44_system R393). -/
theorem cop0Write_other {n : Reg} (h12 : n ≠ 12#5) (h13 : n ≠ 13#5) (v : Word) (s : State) : cop0Write n v s = s := by
  unfold cop0Write
  split
  · exact absurd rfl h12
  · exact absurd rfl h13
  · rfl

/-- MTC0 leaves HI, LO, EPC and BadVaddr, for every number. -/
theorem cop0Write_rest (n : Reg) (v : Word) (s : State) :
    (cop0Write n v s).hi = s.hi ∧ (cop0Write n v s).lo = s.lo ∧ (cop0Write n v s).epc = s.epc ∧
      (cop0Write n v s).badVaddr = s.badVaddr := by
  unfold cop0Write
  split <;> exact ⟨rfl, rfl, rfl, rfl⟩

/-- Settles O46: by how an instruction ends, the frame of a firing, and the two cases of the poll. -/
theorem cop0ChangesOnlyByItsOwners : Obligations.Cop0ChangesOnlyByItsOwners := by
  unfold Obligations.Cop0ChangesOnlyByItsOwners
  refine ⟨fun i s t ht => ?_, fun s t e hw he ht => ?_, fun s => ?_⟩
  · cases (exec_form i).ends ht with
    | commit u w l hu =>
      simp only [State.special, Prod.mk.injEq] at hu
      obtain ⟨-, -, hcop0⟩ := hu
      exact .inl hcop0
    | raised c ba hc => exact .inr (.inr (.inr ⟨c, ba, hc, s.enter_commit_raises c ba⟩))
    | hiLo h l => exact .inl ⟨rfl, rfl, rfl, rfl⟩
    | mtc0 rt rd hi =>
      obtain ⟨-, -, hepc, hbad⟩ := cop0Write_rest rd (s.readReg rt) s
      by_cases hrd : rd = 12#5 ∨ rd = 13#5
      · exact .inr (.inl ⟨rt, rd, hi, hrd, hepc, hbad⟩)
      · obtain ⟨h12, h13⟩ := not_or.1 hrd
        rw [cop0Write_other h12 h13]
        exact .inl ⟨rfl, rfl, rfl, rfl⟩
    | rfe hi => exact .inr (.inr (.inl ⟨hi, rfl, rfl, rfl⟩))
  · have hf : fireEvent e s = .next t := step_eq_fireEvent (refusalMark_of_step_next ht) hw he ▸ ht
    rw [fireEvent_frame hf]
    exact ⟨rfl, rfl, rfl, rfl⟩
  · rcases s.poll_cases with h | h <;> rw [h]
    · exact .inr (s.enter_entered .int _)
    · exact .inl ⟨rfl, rfl, rfl, rfl⟩

/-- Settles O47: by how an instruction ends; an exception entry leaves HI and LO. -/
theorem hiLoChangeOnlyByTheirOwners : Obligations.HiLoChangeOnlyByTheirOwners := by
  unfold Obligations.HiLoChangeOnlyByTheirOwners
  refine ⟨fun i s t ht hi => ?_, fun s => ?_⟩
  · cases (exec_form i).ends ht with
    | commit u w l hu =>
      simp only [State.special, Prod.mk.injEq] at hu
      obtain ⟨hhi, hlo, -⟩ := hu
      exact ⟨hhi, hlo⟩
    | raised c ba => exact ⟨rfl, rfl⟩
    | hiLo h l hown =>
      obtain ⟨a, b, hown⟩ := hown
      have := hi a b
      tauto
    | mtc0 rt rd =>
      obtain ⟨hhi, hlo, -⟩ := cop0Write_rest rd (s.readReg rt) s
      exact ⟨hhi, hlo⟩
    | rfe => exact ⟨rfl, rfl⟩
  · rcases s.poll_cases with h | h <;> rw [h] <;> exact ⟨rfl, rfl⟩

/-! ### What an instruction sees of SR (44_system R395) -/

/-- Two results stop in the same way, which is no fault, or answer states that differ in SR alone. -/
inductive AgreeButSr : Result → Result → Prop where
  | next (t : State) (x : Word) : AgreeButSr (.next t) (.next (t.withSr x))
  | refused (r : Refusal) : AgreeButSr (.refused r) (.refused r)

theorem finish_agree (s : State) (v : Word) : AgreeButSr (finish s) (finish (s.withSr v)) := .next _ v

theorem writeBack_agree (r : Reg) (x : Word) (s : State) (v : Word) :
    AgreeButSr (writeBack r x s) (writeBack r x (s.withSr v)) := .next _ v

theorem delayLoad_agree (r : Reg) (x : Word) (s : State) (v : Word) :
    AgreeButSr (delayLoad r x s) (delayLoad r x (s.withSr v)) := .next _ v

/-- Exception entry sees of SR only BEV, and the mode stack it pushes. -/
theorem State.enter_withSr {s : State} {v : Word} (hbev : v.getLsbD 22 = s.sr.getLsbD 22) (c : Exc) (ba : Word) :
    (s.withSr v).enter c ba = (s.enter c ba).withSr (pushMode v) := by
  simp only [State.enter, State.bev, hbev]
  rfl

theorem raiseAt_agree {s : State} {v : Word} (hbev : v.getLsbD 22 = s.sr.getLsbD 22) (c : Exc) (ba : Word) :
    AgreeButSr (raiseAt c ba s) (raiseAt c ba (s.withSr v)) := by
  rw [raiseAt, raiseAt, State.enter_withSr hbev]
  exact finish_agree _ _

theorem State.transfer_withSr (s : State) (v : Word) (k : Bool) (a : Word) :
    (s.withSr v).transfer k a = (s.transfer k a).withSr v := by
  cases k <;> rfl

/-- MFC0 of another register than SR sees nothing of SR. -/
theorem cop0Read_withSr {n : Reg} (hn : n ≠ 12#5) (s : State) (v : Word) :
    cop0Read n (s.withSr v) = ((cop0Read n s).1, (cop0Read n s).2.withSr v) := by
  unfold cop0Read
  split
  case h_2 => exact absurd rfl hn
  all_goals rfl

/-- MTC0 sees nothing of SR. -/
theorem cop0Write_withSr (n : Reg) (w : Word) (s : State) (v : Word) :
    ∃ x, cop0Write n w (s.withSr v) = (cop0Write n w s).withSr x := by
  unfold cop0Write
  split
  · exact ⟨w, rfl⟩
  · exact ⟨v, rfl⟩
  · exact ⟨v, rfl⟩

section
variable {s : State} {v : Word}

theorem load_agree (hisc : v.getLsbD 16 = s.sr.getLsbD 16) (hbev : v.getLsbD 22 = s.sr.getLsbD 22) (w : Width)
    (ext : Word → Word) (rt : Reg) (a : Word) : AgreeButSr (load w ext rt a s) (load w ext rt a (s.withSr v)) := by
  simp only [load, memRead_withSr hisc]
  split
  · cases memRead a w s with
    | ok p => exact delayLoad_agree _ _ _ _
    | error r => exact .refused r
  · exact raiseAt_agree hbev _ _

theorem loadPartial_agree (hisc : v.getLsbD 16 = s.sr.getLsbD 16) (merge : BitVec 2 → Word → Word → Word) (rt : Reg)
    (a : Word) : AgreeButSr (loadPartial merge rt a s) (loadPartial merge rt a (s.withSr v)) := by
  simp only [loadPartial, memRead_withSr hisc]
  cases memRead (alignedWord a) .word s with
  | ok p => exact delayLoad_agree _ _ _ _
  | error r => exact .refused r

theorem store_agree (hisc : v.getLsbD 16 = s.sr.getLsbD 16) (hbev : v.getLsbD 22 = s.sr.getLsbD 22) (w : Width)
    (rt : Reg) (a : Word) : AgreeButSr (store w rt a s) (store w rt a (s.withSr v)) := by
  simp only [store, show (s.withSr v).readReg rt = s.readReg rt from rfl, memWrite_withSr hisc]
  split
  · cases memWrite a w (s.readReg rt) s with
    | ok t => exact finish_agree _ _
    | error r => exact .refused r
  · exact raiseAt_agree hbev _ _

theorem storeMerged_agree (hisc : v.getLsbD 16 = s.sr.getLsbD 16) (merge : BitVec 2 → Word → Word → Word) (rt : Reg)
    (a : Word) : AgreeButSr (storeMerged merge rt a s) (storeMerged merge rt a (s.withSr v)) := by
  simp only [storeMerged, show (s.withSr v).readReg rt = s.readReg rt from rfl, storePartial_withSr hisc]
  cases storePartial (alignedWord a) (merge (lowBits a) (s.readReg rt)) s with
  | ok t => exact finish_agree _ _
  | error r => exact .refused r

/-- A meaning of any form but MFC0 of SR does the same under another SR of the same Isc and BEV. -/
theorem Form.agree {i : Instr} {m : State → Result} (h : Form i m) (hi : ∀ rt, i ≠ .mfc0 rt 12#5)
    (hisc : v.getLsbD 16 = s.sr.getLsbD 16) (hbev : v.getLsbD 22 = s.sr.getLsbD 22) :
    AgreeButSr (m s) (m (s.withSr v)) := by
  cases h with
  | write r f hf => simp only [hf s v]; exact writeBack_agree _ _ _ _
  | writeOrTrap r k f hk hf =>
    simp only [hk s v, hf s v]
    split
    · exact raiseAt_agree hbev _ _
    · exact writeBack_agree _ _ _ _
  | trap c => exact raiseAt_agree hbev _ _
  | branch k a hk ha => simp only [hk s v, ha s v, Machine.branch, State.transfer_withSr]; exact finish_agree _ _
  | branchLink r k a hk ha =>
    simp only [hk s v, ha s v, Machine.branchLink, State.transfer_withSr]; exact writeBack_agree _ _ _ _
  | hiLo h l _ hh hl => simp only [hh s v, hl s v]; exact finish_agree (s.setHiLo _ _) v
  | load w ext rt rs imm => exact load_agree hisc hbev _ _ _ _
  | loadPartial merge rt rs imm => exact loadPartial_agree hisc _ _ _
  | store w rt rs imm => exact store_agree hisc hbev _ _ _
  | storeMerged merge rt rs imm => exact storeMerged_agree hisc _ _ _
  | mfc0 rt rd =>
    have hrd : rd ≠ 12#5 := fun h => hi rt (h ▸ rfl)
    rw [execMfc0, execMfc0, cop0Read_withSr hrd s v]
    exact delayLoad_agree _ _ _ _
  | mtc0 rt rd =>
    obtain ⟨x, hx⟩ := cop0Write_withSr rd (s.readReg rt) s v
    rw [execMtc0, execMtc0, show (s.withSr v).readReg rt = s.readReg rt from rfl, hx]
    exact finish_agree _ x
  | rfe => exact finish_agree s.returnFromException _
  | cop2 =>
    simp only [cop2Word]
    cases s.cfg.cop2Mode with
    | refuse => exact .refused _
    | noOp => exact finish_agree _ _

end

/-- Settles O48: the form of an instruction's meaning decides what it sees of SR. -/
theorem modeChecksNothing : Obligations.ModeChecksNothing := by
  unfold Obligations.ModeChecksNothing
  intro i s v hi hisc hbev
  have h := (exec_form i).agree hi hisc hbev
  generalize exec i s = r, exec i (s.withSr v) = r' at h ⊢
  cases h with
  | next t x => exact ⟨fun u hu => ⟨x, by cases hu; rfl⟩, fun q hq => (by cases hq), fun f hf => (by cases hf)⟩
  | refused r => exact ⟨fun u hu => (by cases hu), fun q hq => hq, fun f hf => (by cases hf)⟩

end Sys2Proof.Machine
end

section
/-! SUPPORT. The numbers of multiply and divide (41_muldiv R290 to R298), the COP0 transfers (44_system R392 to R394), and the host's
actions on memory (70_reset_and_hazards R560, R562, R580). -/

namespace Sys2Proof.Machine

/-! ### Products -/

/-- The two halves of a 64-bit word are its signed number. -/
theorem halves_toInt (p : BitVec 64) : (p.extractLsb' 32 32).toInt * 2 ^ 32 + (p.extractLsb' 0 32).toNat = p.toInt := by
  have hp : p.extractLsb' 32 32 ++ p.extractLsb' 0 32 = p := BitVec.extractLsb'_append_extractLsb' (w := 32) (len := 32)
  conv_rhs => rw [← hp]
  rw [BitVec.toInt_append]
  simp [mul_comm]

/-- The two halves of a 64-bit word are its unsigned number. -/
theorem halves_toNat (p : BitVec 64) : (p.extractLsb' 32 32).toNat * 2 ^ 32 + (p.extractLsb' 0 32).toNat = p.toNat := by
  have := p.isLt
  simp only [BitVec.extractLsb'_toNat, Nat.shiftRight_eq_div_pow]
  omega

/-- The product of two sign-extended words is exact. -/
theorem signExtend_mul_toInt (x y : Word) : (x.signExtend 64 * y.signExtend 64).toInt = x.toInt * y.toInt := by
  have hle : x.toInt * y.toInt ≤ 2 ^ 62 := BitVec.toInt_mul_toInt_le
  have hge : -2 ^ 62 ≤ x.toInt * y.toInt := by
    have := BitVec.le_toInt_mul_toInt (x := x) (y := y)
    omega
  rw [BitVec.toInt_mul, BitVec.toInt_signExtend_of_le (by decide), BitVec.toInt_signExtend_of_le (by decide)]
  exact Int.bmod_eq_of_le (by omega) (by omega)

/-- The product of two zero-extended words is exact. -/
theorem setWidth_mul_toNat (x y : Word) : (x.setWidth 64 * y.setWidth 64).toNat = x.toNat * y.toNat := by
  have hlt : x.toNat * y.toNat < 2 ^ 32 * 2 ^ 32 := Nat.mul_lt_mul'' x.isLt y.isLt
  rw [BitVec.toNat_mul, BitVec.toNat_setWidth_of_le (by decide), BitVec.toNat_setWidth_of_le (by decide)]
  exact Nat.mod_eq_of_lt hlt

/-- Settles O22: HI and LO are the halves of a 64-bit product that is exact. -/
theorem products : Obligations.Products := by
  unfold Obligations.Products
  refine fun s a b => ⟨⟨_, _, _, rfl, State.commit_endsWith _ _ _, ?_⟩, ⟨_, _, _, rfl, State.commit_endsWith _ _ _, ?_⟩⟩
  · rw [halves_toInt, signExtend_mul_toInt]
  · rw [halves_toNat, setWidth_mul_toNat]

/-! ### Quotients and remainders -/

theorem divQuotient_toInt {n d : Word} (hd : d ≠ 0#32) (hmin : ¬ (n = 0x80000000#32 ∧ d = 0xFFFFFFFF#32)) :
    (divQuotient n d).toInt = n.toInt.tdiv d.toInt := by
  have hexact : n ≠ BitVec.intMin 32 ∨ d ≠ -1#32 := not_and_or.1 hmin
  rw [divQuotient, if_neg hd, if_neg hmin, BitVec.toInt_ofInt, ← BitVec.toInt_sdiv, BitVec.toInt_sdiv_of_ne_or_ne _ _ hexact]

theorem divRemainder_toInt {n d : Word} (hd : d ≠ 0#32) (hmin : ¬ (n = 0x80000000#32 ∧ d = 0xFFFFFFFF#32)) :
    (divRemainder n d).toInt = n.toInt.tmod d.toInt := by
  rw [divRemainder, if_neg hd, if_neg hmin, ← Int.tmod_def, ← BitVec.toInt_srem, BitVec.ofInt_toInt]

/-- A remainder of truncated division is smaller than the divisor, and is 0 or has the dividend's sign. -/
theorem tmod_size_and_sign (n : Int) {d : Int} (hd : d ≠ 0) :
    (n.tmod d).natAbs < d.natAbs ∧ (n.tmod d = 0 ∨ (n.tmod d < 0 ↔ n < 0)) := by
  refine ⟨by rw [Int.natAbs_tmod]; exact Nat.mod_lt _ (Int.natAbs_pos.2 hd), ?_⟩
  rcases Int.le_total 0 n with hn | hn
  · have := Int.tmod_nonneg d hn
    omega
  · have := Int.tmod_nonneg d (Int.neg_nonneg.2 hn)
    rw [Int.neg_tmod] at this
    rcases Int.lt_or_eq_of_le hn with hneg | rfl
    · omega
    · exact .inl (Int.zero_tmod d)

theorem divuQuotient_toNat {n d : Word} (hd : d ≠ 0#32) : (divuQuotient n d).toNat = n.toNat / d.toNat := by
  rw [divuQuotient, if_neg hd, BitVec.toNat_ofNat]
  exact Nat.mod_eq_of_lt (Nat.lt_of_le_of_lt (Nat.div_le_self _ _) n.isLt)

theorem divuRemainder_toNat {n d : Word} (hd : d ≠ 0#32) : (divuRemainder n d).toNat = n.toNat % d.toNat := by
  rw [divuRemainder, if_neg hd, BitVec.toNat_ofNat]
  exact Nat.mod_eq_of_lt (Nat.lt_of_le_of_lt (Nat.mod_le _ _) n.isLt)

/-- DIV away from its two corner cases (41_muldiv R292). -/
theorem div_law {n d : Word} (hd : d ≠ 0#32) (hmin : ¬ (n = 0x80000000#32 ∧ d = 0xFFFFFFFF#32)) :
    n.toInt = d.toInt * (divQuotient n d).toInt + (divRemainder n d).toInt ∧
      (divRemainder n d).toInt.natAbs < d.toInt.natAbs ∧
      (divRemainder n d = 0#32 ∨ ((divRemainder n d).toInt < 0 ↔ n.toInt < 0)) := by
  have hd' : d.toInt ≠ 0 := fun h => hd (BitVec.eq_of_toInt_eq h)
  rw [← BitVec.toInt_inj, divQuotient_toInt hd hmin, divRemainder_toInt hd hmin]
  exact ⟨(Int.mul_tdiv_add_tmod _ _).symm, tmod_size_and_sign n.toInt hd'⟩

/-- DIVU by another divisor than zero (41_muldiv R293). -/
theorem divu_law {n d : Word} (hd : d ≠ 0#32) :
    n.toNat = d.toNat * (divuQuotient n d).toNat + (divuRemainder n d).toNat ∧ (divuRemainder n d).toNat < d.toNat := by
  have hpos : 0 < d.toNat := Nat.pos_of_ne_zero fun h => hd (BitVec.eq_of_toNat_eq h)
  rw [divuQuotient_toNat hd, divuRemainder_toNat hd]
  exact ⟨(Nat.div_add_mod _ _).symm, Nat.mod_lt _ hpos⟩

/-- The most negative number by -1 (41_muldiv R292). -/
theorem div_min {n d : Word} (h : n = 0x80000000#32 ∧ d = 0xFFFFFFFF#32) :
    divRemainder n d = 0#32 ∧ divQuotient n d = 0x80000000#32 := by
  obtain ⟨rfl, rfl⟩ := h
  decide

/-- Settles O28: the corner cases by the definition's branches, every other by the laws of truncated and of natural division. -/
theorem divisions : Obligations.Divisions := by
  unfold Obligations.Divisions
  exact fun s a b =>
    ⟨⟨_, _, _, rfl, State.commit_endsWith _ _ _, fun hd => ⟨if_pos hd, if_pos hd⟩, div_min, div_law⟩,
      ⟨_, _, _, rfl, State.commit_endsWith _ _ _, fun hd => ⟨if_pos hd, if_pos hd⟩, divu_law⟩⟩

/-! ### The COP0 transfers -/

theorem cop0Read_other {n : Reg} (hn : n ∉ [8#5, 12#5, 13#5, 14#5, 15#5]) (s : State) : cop0Read n s = s.draw := by
  unfold cop0Read
  split
  case h_6 => rfl
  all_goals exact absurd (by decide) hn

/-- Settles O43: the five registers of the block, and a draw for every other number; the load is the commit's. -/
theorem moveFromCop0 : Obligations.MoveFromCop0 := by
  unfold Obligations.MoveFromCop0
  intro s rt rd
  have loads {x : Word} {u : State} (h : cop0Read rd s = (x, u)) : EndsWith u
      ((cop0Read rd s).2.commit none (some ⟨rt, (cop0Read rd s).1⟩)) none (some ⟨rt, x⟩) := by
    rw [h]
    exact State.commit_endsWith _ _ _
  refine ⟨_, rfl, ?_, ?_, ?_, ?_, ?_, fun h => loads (cop0Read_other h s)⟩ <;> rintro rfl
  · exact loads rfl
  · exact loads rfl
  · exact ⟨s.causeValue, loads rfl, fun k hk => s.causeValue_bit hk⟩
  · exact loads rfl
  · exact loads rfl

/-- Bits 9:8 of Cause are the written word's, and the others stand (10_state R54). -/
theorem causeWritten_bit (old v : Word) {k : Nat} (hk : k < 32) :
    ((old &&& 0xFFFFFCFF#32) ||| (v &&& 0x00000300#32)).getLsbD k = if k = 8 ∨ k = 9 then v.getLsbD k else old.getLsbD k := by
  simp only [BitVec.getLsbD_or, BitVec.getLsbD_and]
  interval_cases k <;> simp

/-- Settles O58: by the register number of MTC0, and the pop of the mode stack bit by bit. -/
theorem cop0Writes : Obligations.Cop0Writes := by
  unfold Obligations.Cop0Writes
  refine fun s rt rd => ⟨⟨_, rfl, ?_, ?_, fun h12 h13 => ?_⟩,
    ⟨_, _, rfl, State.commit_endsWith s.returnFromException _ _, fun k _ => popMode_bit s.sr k⟩⟩
  · rintro rfl
    exact State.commit_endsWith _ _ _
  · rintro rfl
    exact ⟨_, State.commit_endsWith (cop0Write 13#5 (s.readReg rt) s) _ _, fun k hk => causeWritten_bit _ _ hk⟩
  · rw [cop0Write_other h12 h13]
    exact State.commit_endsWith _ _ _

/-! ### The host's actions -/

/-- The ROM's part of memory reads as memory inside the ROM, and as an unlisted byte elsewhere. -/
theorem Memory.read_romPart (m : Memory) (a : Nat) : Memory.read (Memory.romPart m) a =
    if Config.romBase ≤ a ∧ a < Config.romBase + Config.romSize then Memory.read m a else unlistedByte := by
  induction m with
  | nil => simp [Memory.romPart]
  | cons c m ih =>
    obtain ⟨b, v⟩ := c
    by_cases hb : Config.romBase ≤ b ∧ b < Config.romBase + Config.romSize
    · by_cases hab : a = b
      · simp [Memory.romPart, Memory.read_cons, hb, hab]
      · simp [Memory.romPart, Memory.read_cons, hb, hab, ih]
    · rw [Memory.romPart, if_neg hb, ih, Memory.read_cons]
      split
      · rw [if_neg]
        rintro rfl
        exact hb ‹_›
      · rfl

/-- Bytes written one after another change only their own addresses. -/
theorem Memory.read_writeBytes_outside (bs : List Byte) (m : Memory) {a b : Nat} (h : b < a ∨ a + bs.length ≤ b) :
    Memory.read (Memory.writeBytes m a bs) b = Memory.read m b := by
  induction bs generalizing m a with
  | nil => rfl
  | cons x bs ih =>
    simp only [List.length_cons] at h
    rw [Memory.writeBytes, ih _ (by omega), Memory.read_write_of_ne _ _ (by omega)]

/-- Bytes written one after another are read back, in canonical memory. -/
theorem Memory.read_writeBytes {bs : List Byte} {m : Memory} (hw : Memory.wf m) {a k : Nat} (hk : k < bs.length) :
    Memory.read (Memory.writeBytes m a bs) (a + k) = bs[k] := by
  induction bs generalizing m a k with
  | nil => cases hk
  | cons x bs ih =>
    rw [Memory.writeBytes]
    cases k with
    | zero => rw [Memory.read_writeBytes_outside _ _ (by omega)]; exact Memory.read_write_self hw a x
    | succ k =>
      rw [show a + (k + 1) = a + 1 + k by omega]
      exact ih (Memory.wf_write hw a x) (Nat.lt_of_succ_lt_succ hk)

/-- Settles O57: a reset keeps the ROM's part of memory alone; the image is written byte after byte from the ROM's base. -/
theorem machineReset : Obligations.MachineReset := by
  unfold Obligations.MachineReset
  refine ⟨fun s => ⟨rfl, fun a hlo hhi => ?_, fun a ha => ?_⟩, fun s image hlen => if_neg hlen, fun s image hlen hw =>
    ⟨_, if_pos hlen, rfl, fun k hk => Memory.read_writeBytes hw _, fun a ha => Memory.read_writeBytes_outside _ _ ?_⟩⟩
  · exact (Memory.read_romPart s.mem a).trans (if_pos ⟨hlo, by simp only [Config.romBase, Config.romSize]; omega⟩)
  · exact (Memory.read_romPart s.mem a).trans (if_neg fun h => Nat.not_lt.2 h.1 ha)
  · simp only [Config.romBase]
    omega

end Sys2Proof.Machine
end

section
/-! SUPPORT. What a turn of the external collaborators does (60_exceptions R481 to R483, 70_reset_and_hazards R580): the calls
that the spec does not refuse all run, and the state after them in one equation. -/

namespace Sys2Proof.Machine

/-! ### The calls of a turn -/

/-- A call that the spec does not refuse at a cycle (20_memory R123, 60_exceptions R482). -/
def CollabCall.allowed (cycles : Nat) : CollabCall → Prop
  | .triggerInterrupt n => n < 16
  | .scheduleEvent delta _ => cycles + delta < 2 ^ 64 - 1
  | .scheduleInterrupt delta _ => cycles + delta < 2 ^ 64 - 1

theorem State.turnAllowed_iff (s : State) : s.turnAllowed ↔ ∀ c ∈ s.nextCalls, c.allowed s.cycles := by
  refine forall_congr' fun c => imp_congr_right fun _ => ?_
  cases c <;> exact Iff.rfl

/-- The I_STAT bits that the calls of a turn set (20_memory R123). -/
def raisedLines : List CollabCall → BitVec 16
  | [] => 0#16
  | .triggerInterrupt n :: cs => BitVec.twoPow 16 n ||| raisedLines cs
  | .scheduleEvent _ _ :: cs => raisedLines cs
  | .scheduleInterrupt _ _ :: cs => raisedLines cs

theorem raisedLines_bit (cs : List CollabCall) {n : Nat} (hn : n < 16) :
    (raisedLines cs).getLsbD n = cs.contains (.triggerInterrupt n) := by
  induction cs with
  | nil => simp [raisedLines]
  | cons c cs ih =>
    cases c with
    | triggerInterrupt m =>
      rw [raisedLines, BitVec.getLsbD_or, ih, BitVec.getLsbD_twoPow, List.contains_cons]
      congr 1
      rcases eq_or_ne n m with rfl | hm
      · simp [hn]
      · simp [hm, hm.symm]
    | scheduleEvent d k => simp [raisedLines, ih]
    | scheduleInterrupt d k => simp [raisedLines, ih]

/-- The state after the calls of a turn. -/
def State.afterCalls (s : State) (cs : List CollabCall) : State :=
  { s with
    iStat := s.iStat ||| raisedLines cs
    queue := s.queue ++ insertedEvents s.cycles s.seq cs
    seq := s.seq + (insertedEvents s.cycles s.seq cs).length
    nextWake := (insertedEvents s.cycles s.seq cs).foldl (fun m e => min m e.target) s.nextWake }

theorem triggerInterrupt_of_lt {n : Nat} (hn : n < 16) (s : State) :
    triggerInterrupt n s = .ok { s with iStat := s.iStat ||| BitVec.twoPow 16 n } := if_pos hn

/-- An event below the sentinel is queued (60_exceptions R482). -/
theorem scheduleEvent_of_lt {s : State} {d : Nat} (hd : s.cycles + d < 2 ^ 64 - 1) (p : Payload) :
    scheduleEvent d p s = .ok { s with
      queue := s.queue ++ [⟨s.cycles + d, s.seq, p⟩], seq := s.seq + 1, nextWake := min s.nextWake (s.cycles + d) } :=
  if_neg (Nat.not_le.2 hd)

/-- Calls that the spec does not refuse all run, and none changes the cycle at which the next is judged. -/
theorem runCalls_of_allowed {cs : List CollabCall} {s : State} (h : ∀ c ∈ cs, c.allowed s.cycles) :
    runCalls cs s = .ok (s.afterCalls cs) := by
  induction cs generalizing s with
  | nil => simp [runCalls, State.afterCalls, raisedLines, insertedEvents]
  | cons c cs ih =>
    obtain ⟨hc, hcs⟩ := List.forall_mem_cons.1 h
    cases c with
    | triggerInterrupt n =>
      simp only [runCalls, runCall, triggerInterrupt_of_lt hc]
      refine (ih ?_).trans ?_
      · exact hcs
      · simp [State.afterCalls, raisedLines, insertedEvents, BitVec.or_assoc]
    | scheduleEvent d k =>
      simp only [runCalls, runCall, scheduleEvent_of_lt hc]
      refine (ih ?_).trans ?_
      · exact hcs
      · simp [State.afterCalls, raisedLines, insertedEvents, Nat.add_assoc, Nat.add_comm 1]
    | scheduleInterrupt d n =>
      simp only [runCalls, runCall, scheduleInterrupt, scheduleEvent_of_lt hc]
      refine (ih ?_).trans ?_
      · exact hcs
      · simp [State.afterCalls, raisedLines, insertedEvents, Nat.add_assoc, Nat.add_comm 1]

/-! ### The turn -/

/-- A turn runs the next list of the script, which is the empty list where the script has ended (log 7). -/
theorem collaboratorTurn_eq (s : State) : collaboratorTurn s = runCalls s.nextCalls { s with script := s.script.tail } := by
  unfold collaboratorTurn State.nextCalls
  cases hs : s.script with
  | nil =>
    change Except.ok s = Except.ok { s with script := [] }
    rw [← hs]
  | cons calls rest => rfl

theorem collaboratorTurn_of_allowed {s : State} (h : s.turnAllowed) : ∃ u, collaboratorTurn s = .ok u ∧ TookTurn s u := by
  rw [collaboratorTurn_eq, runCalls_of_allowed (s := { s with script := s.script.tail }) (s.turnAllowed_iff.1 h)]
  refine ⟨_, rfl, fun n hn => ?_, rfl, rfl, rfl, rfl, rfl⟩
  rw [← raisedLines_bit _ hn]
  exact BitVec.getLsbD_or

/-- Settles O49: the calls of an allowed turn all run, by induction over them; the two refusals by their guards. -/
theorem collaboratorTurnLaws : Obligations.CollaboratorTurn := by
  unfold Obligations.CollaboratorTurn
  exact ⟨fun s => collaboratorTurn_of_allowed, fun s n hn => if_neg (Nat.not_lt.2 hn), fun s d p hd => if_pos hd⟩

end Sys2Proof.Machine
end

section
/-! SUPPORT. What an activation pass of the DMA controller changes (60_exceptions R515): its transfers touch neither the DMA
registers nor anything of the CPU, and each channel's turn clears at most that channel's start and trigger. -/

namespace Sys2Proof.Machine

/-! ### What a transfer changes -/

/-- What the transfers of the DMA controller leave of a state: all but RAM, the record and the turns of the collaborators. -/
structure TransferFrame (s t : State) : Prop where
  frame : t = { s with
    mem := t.mem, iStat := t.iStat, queue := t.queue, seq := t.seq, nextWake := t.nextWake, draws := t.draws,
    script := t.script, extLog := t.extLog }
  outsideRam : ∀ a, 0x200000 ≤ a → Memory.read t.mem a = Memory.read s.mem a

theorem TransferFrame.refl (s : State) : TransferFrame s s := ⟨rfl, fun _ _ => rfl⟩

theorem TransferFrame.trans {s t u : State} (h : TransferFrame s t) (h' : TransferFrame t u) : TransferFrame s u :=
  ⟨h'.frame.trans (by rw [h.frame]), fun a ha => (h'.outsideRam a ha).trans (h.outsideRam a ha)⟩

theorem collaboratorTurn_transferFrame {s t : State} (h : collaboratorTurn s = .ok t) : TransferFrame s t := by
  rw [collaboratorTurn_frame h]
  exact ⟨rfl, fun _ _ => rfl⟩

theorem portWrite_transferFrame {n : Fin 7} {v : Word} {s t : State} (h : portWrite n v s = .ok t) : TransferFrame s t :=
  .trans (t := { s with extLog := .portWrite n.val v :: s.extLog }) ⟨rfl, fun _ _ => rfl⟩ (collaboratorTurn_transferFrame h)

theorem portRead_transferFrame {n : Fin 7} {v : Word} {s t : State} (h : portRead n s = .ok (v, t)) : TransferFrame s t := by
  simp only [portRead] at h
  split at h <;> cases h
  exact .trans (t := s.draw.2) ⟨rfl, fun _ _ => rfl⟩ (collaboratorTurn_transferFrame ‹_›)

/-- A word that DMA writes lies in RAM (60_exceptions R503). -/
theorem setRamWord_transferFrame (s : State) (a v : Word) : TransferFrame s (s.setRamWord a v) where
  frame := rfl
  outsideRam b hb := by
    rw [State.setRamWord_mem]
    refine Memory.read_writeVal_outside _ _ _ (.inr ?_)
    have hlt := dmaOffset_lt a
    have haligned : dmaOffset a % 4 = 0 := by
      simp only [dmaOffset, BitVec.toNat_and]
      rw [Nat.and_mod_two_pow (n := 2) (a := a.toNat)]
      simp
    simp only [Config.ramSize, Width.bytes] at hlt ⊢
    omega

theorem copyWord_transferFrame {n : Fin 7} {fromRam : Bool} {a : Word} {s t : State} (h : copyWord n fromRam a s = .ok t) :
    TransferFrame s t := by
  simp only [copyWord] at h
  split at h
  · exact portWrite_transferFrame h
  · split at h <;> cases h
    exact (portRead_transferFrame ‹_›).trans (setRamWord_transferFrame _ _ _)

theorem blockCopy_transferFrame {n : Fin 7} {fromRam down : Bool} {k : Nat} {a : Word} {s t : State}
    (h : blockCopy n fromRam down k a s = .ok t) : TransferFrame s t := by
  induction k generalizing a s with
  | zero => cases h; exact .refl _
  | succ k ih =>
    simp only [blockCopy] at h
    split at h
    · exact (copyWord_transferFrame ‹_›).trans (ih h)
    · cases h

theorem orderingTable_transferFrame (k : Nat) (a : Word) (s : State) : TransferFrame s (orderingTable k a s) := by
  induction k generalizing a s with
  | zero => exact .refl s
  | succ k ih => exact (setRamWord_transferFrame s a _).trans (ih _ _)

theorem sendPayload_transferFrame {node : Word} {left k : Nat} {s t : State} (h : sendPayload node left k s = .ok t) :
    TransferFrame s t := by
  induction left generalizing k s with
  | zero => cases h; exact .refl _
  | succ left ih =>
    simp only [sendPayload] at h
    split at h
    · exact (portWrite_transferFrame ‹_›).trans (ih h)
    · cases h

theorem linkedList_transferFrame {fuel : Nat} {seen : List Nat} {a : Word} {s t : State}
    (h : linkedList fuel seen a s = .ok t) : TransferFrame s t := by
  induction fuel generalizing seen a s with
  | zero => cases h
  | succ fuel ih =>
    simp only [linkedList] at h
    split at h
    · cases h
    · split at h
      · cases h
      · have hnode := sendPayload_transferFrame ‹_›
        split at h
        · cases h; exact hnode
        · exact hnode.trans (ih h)

theorem runChannel_transferFrame {n : Fin 7} {s t : State} (h : runChannel n s = .ok t) : TransferFrame s t := by
  simp only [runChannel] at h
  split at h
  · split at h
    · cases h; exact orderingTable_transferFrame _ _ _
    · exact blockCopy_transferFrame h
  · split at h
    · exact linkedList_transferFrame h
    · cases h

/-! ### A channel before and after its turn -/

theorem getLsbD_iff_toNat (x : Word) (k : Nat) : x.getLsbD k = true ↔ x.toNat / 2 ^ k % 2 = 1 := by
  rw [BitVec.getLsbD, Nat.testBit_eq_decide_div_mod_eq, decide_eq_true_iff]

/-- A channel is active when it is by number (60_exceptions R509). -/
theorem Channel.active_iff (c : Channel) : c.active = true ↔ c.startsTransfer := by
  have hsync : c.sync ≠ 0#2 ↔ c.chcr.toNat / 2 ^ 9 % 4 ≠ 0 := by
    rw [← BitVec.toNat_ne_iff_ne, Channel.sync, BitVec.extractLsb'_toNat, Nat.shiftRight_eq_div_pow]
    rfl
  simp only [Channel.active, Channel.startsTransfer, Bool.and_eq_true, Bool.or_eq_true, bne_iff_ne, getLsbD_iff_toNat, hsync]

/-- The registers of a channel after its turn in the pass: where it was active, start and trigger are cleared
(60_exceptions R515, R519). -/
def Channel.passed (c : Channel) : Channel := if c.active then { c with chcr := c.chcr &&& 0xEEFFFFFF#32 } else c

theorem Channel.passed_of_inactive {c : Channel} (h : ¬ c.startsTransfer) : c.passed = c := if_neg (mt c.active_iff.1 h)

@[simp] theorem Channel.passed_madr (c : Channel) : c.passed.madr = c.madr := by unfold Channel.passed; split <;> rfl

@[simp] theorem Channel.passed_bcr (c : Channel) : c.passed.bcr = c.bcr := by unfold Channel.passed; split <;> rfl

/-- A turn in the pass changes at most CHCR's start and trigger bits. -/
theorem Channel.passed_chcr_bit (c : Channel) {k : Nat} (h24 : k ≠ 24) (h28 : k ≠ 28) :
    c.passed.chcr.getLsbD k = c.chcr.getLsbD k := by
  have hmask : k < 32 → (0xEEFFFFFF#32).getLsbD k = true := fun hk => by interval_cases k <;> simp_all
  unfold Channel.passed
  split
  · by_cases hk : k < 32
    · rw [BitVec.getLsbD_and, hmask hk, Bool.and_true]
    · rw [BitVec.getLsbD_of_ge _ _ (Nat.not_lt.1 hk), BitVec.getLsbD_of_ge _ _ (Nat.not_lt.1 hk)]
  · rfl

theorem Channel.passed_inactive (c : Channel) : ¬ c.passed.startsTransfer := by
  rw [← Channel.active_iff]
  unfold Channel.passed
  split
  · simp [Channel.active]
  · assumption

theorem Channel.passed_passed (c : Channel) : c.passed.passed = c.passed := passed_of_inactive c.passed_inactive

/-! ### The activation pass -/

/-- What an activation pass leaves of a state: what its transfers leave, but for the channels and DICR. -/
structure PassFrame (s t : State) : Prop where
  frame : t = { s with
    mem := t.mem, iStat := t.iStat, queue := t.queue, seq := t.seq, nextWake := t.nextWake, draws := t.draws,
    script := t.script, extLog := t.extLog, chans := t.chans, dicr := t.dicr }
  outsideRam : ∀ a, 0x200000 ≤ a → Memory.read t.mem a = Memory.read s.mem a

theorem PassFrame.refl (s : State) : PassFrame s s := ⟨rfl, fun _ _ => rfl⟩

theorem PassFrame.trans {s t u : State} (h : PassFrame s t) (h' : PassFrame t u) : PassFrame s u :=
  ⟨h'.frame.trans (by rw [h.frame]), fun a ha => (h'.outsideRam a ha).trans (h.outsideRam a ha)⟩

theorem TransferFrame.passFrame {s t : State} (h : TransferFrame s t) : PassFrame s t :=
  ⟨by rw [h.frame], h.outsideRam⟩

/-- The completion of a channel clears its start and trigger, and changes of the rest only DICR and the queue
(60_exceptions R519). -/
theorem completeChannel_ok {n : Fin 7} {s t : State} (h : completeChannel n s = .ok t) :
    PassFrame s t ∧ t.chans = s.chans.set n { s.chans[n] with chcr := s.chans[n].chcr &&& 0xEEFFFFFF#32 } := by
  rw [updateMaster_frame h]
  exact ⟨⟨rfl, fun _ _ => rfl⟩, rfl⟩

/-- A channel's turn in the pass leaves that channel passed, and every other as it was. -/
theorem channelPass_ok {n : Fin 7} {s t : State} (h : channelPass n s = .ok t) :
    PassFrame s t ∧ t.chans = s.chans.set n s.chans[n].passed := by
  simp only [channelPass] at h
  split at h
  · split at h
    · rename_i hactive _ u hu
      have hrun := runChannel_transferFrame hu
      have hchans : u.chans = s.chans := by rw [hrun.frame]
      obtain ⟨hframe, ht⟩ := completeChannel_ok h
      refine ⟨hrun.passFrame.trans hframe, ?_⟩
      rw [ht, hchans, Channel.passed, if_pos hactive]
    · cases h
  · cases h
    rw [Channel.passed, if_neg ‹_›]
    exact ⟨.refl s, (Vector.set_getElem_self _).symm⟩

theorem channelPasses_ok {ns : List (Fin 7)} {s t : State} (h : channelPasses ns s = .ok t) :
    PassFrame s t ∧ ∀ k : Fin 7, t.chans[k] = if k ∈ ns then s.chans[k].passed else s.chans[k] := by
  induction ns generalizing s with
  | nil => cases h; exact ⟨.refl _, fun k => by simp⟩
  | cons n ns ih =>
    simp only [channelPasses] at h
    split at h
    · rename_i u hu
      obtain ⟨hframe, hchans⟩ := channelPass_ok hu
      obtain ⟨hframe', hchans'⟩ := ih h
      refine ⟨hframe.trans hframe', fun k => ?_⟩
      have hk : u.chans[k] = if k = n then s.chans[k].passed else s.chans[k] := by
        rw [hchans]
        by_cases hkn : k = n
        · subst hkn; simp
        · rw [if_neg hkn]
          exact Vector.getElem_set_ne _ _ fun he => hkn (Fin.ext he.symm)
      rw [hchans' k, hk]
      by_cases hkn : k = n
      · simp [hkn, Channel.passed_passed]
      · simp [hkn]
    · cases h

/-- An activation pass leaves every channel passed. -/
theorem activationPass_ok {s t : State} (h : activationPass s = .ok t) :
    PassFrame s t ∧ ∀ k : Fin 7, t.chans[k] = s.chans[k].passed := by
  obtain ⟨hframe, hchans⟩ := channelPasses_ok h
  have hall : ∀ k : Fin 7, k ∈ [(0 : Fin 7), 1, 2, 3, 4, 5, 6] := by decide
  exact ⟨hframe, fun k => (hchans k).trans (if_pos (hall k))⟩

/-- A pass over channels none of which is active does nothing (60_exceptions R515). -/
theorem channelPasses_of_inactive {s : State} (h : ∀ k : Fin 7, ¬ s.chans[k].startsTransfer) (ns : List (Fin 7)) :
    channelPasses ns s = .ok s := by
  induction ns with
  | nil => rfl
  | cons n ns ih =>
    have hn : channelPass n s = .ok s := if_neg (mt s.chans[n].active_iff.1 (h n))
    rw [channelPasses, hn]
    exact ih

/-- Settles O52: every channel is left passed, and every other field by the frame of the pass. -/
theorem activationPassLaws : Obligations.ActivationPassLaws := by
  unfold Obligations.ActivationPassLaws
  intro s t h
  obtain ⟨⟨hframe, hmem⟩, hchans⟩ := activationPass_ok h
  refine ⟨fun n => ?_, fun n => ?_, ?_⟩
  · rw [hchans n]
    exact Channel.passed_inactive _
  · rw [hchans n]
    exact ⟨Channel.passed_madr _, Channel.passed_bcr _, fun k => Channel.passed_chcr_bit _,
      fun hn => by rw [Channel.passed_of_inactive hn]⟩
  · rw [hframe]
    exact ⟨rfl, rfl, rfl, rfl, rfl, rfl, rfl, rfl, rfl, rfl, rfl, rfl, rfl, rfl, hmem⟩

end Sys2Proof.Machine
end

section
/-! SUPPORT. Addresses by number, what an address resolves to, and what a data access of each region answers (20_memory R102 to
R117). -/

namespace Sys2Proof.Machine

/-! ### Segments (20_memory R102, R103) -/

theorem segmentOf_eq_iff (a : Word) (g : BitVec 3) : segmentOf a = g ↔ a.toNat / 2 ^ 29 = g.toNat := by
  have := a.isLt
  rw [← BitVec.toNat_inj, segmentOf, BitVec.extractLsb'_toNat, Nat.shiftRight_eq_div_pow, Nat.mod_eq_of_lt (by omega)]

/-- The segment masks reach the address that the ranges of the segments give. -/
theorem phys_eq_virtPhys (a : Word) : phys a = virtPhys a := by
  have := a.isLt
  unfold phys virtPhys segmentMask
  split
  · rename_i h
    rw [segmentOf_eq_iff] at h
    have hmask : (a &&& 0x7FFFFFFF#32).toNat = a.toNat % 2 ^ 31 := Nat.and_two_pow_sub_one_eq_mod a.toNat 31
    simp only [hmask, BitVec.toNat_ofNat] at h ⊢
    split_ifs <;> omega
  · rename_i h
    rw [segmentOf_eq_iff] at h
    have hmask : (a &&& 0x1FFFFFFF#32).toNat = a.toNat % 2 ^ 29 := Nat.and_two_pow_sub_one_eq_mod a.toNat 29
    simp only [hmask, BitVec.toNat_ofNat] at h ⊢
    split_ifs <;> omega
  · rename_i h4 h5
    rw [segmentOf_eq_iff] at h4 h5
    have hmask : (a &&& 0xFFFFFFFF#32).toNat = a.toNat % 2 ^ 32 := Nat.and_two_pow_sub_one_eq_mod a.toNat 32
    simp only [hmask, BitVec.toNat_ofNat, imp_false] at h4 h5 ⊢
    split_ifs <;> omega

/-- Settles O40: the masks by the ranges of the segments, and the three mirrors by those ranges. -/
theorem segmentsMirror : Obligations.SegmentsMirror := by
  unfold Obligations.SegmentsMirror
  refine ⟨phys_eq_virtPhys, fun p hp => ?_⟩
  simp only [phys_eq_virtPhys, virtPhys, BitVec.toNat_ofNat]
  refine ⟨?_, ?_, ?_⟩ <;> split_ifs <;> omega

/-! ### What an address resolves to (20_memory R111) -/

/-- What the address `a` resolves to, by where it lies. -/
inductive Resolves (s : State) (a : Word) : Except Refusal Region → Prop where
  | ram : inRam s a → Resolves s a (.ok (.ram (virtPhys a % 0x200000)))
  | rom : inRom a → Resolves s a (.ok (.rom (virtPhys a - 0x1FC00000)))
  | scratch : inScratch a → ¬ inKseg1 a → Resolves s a (.ok (.scratch (virtPhys a - 0x1F800000)))
  | kseg1 : inScratch a → inKseg1 a → Resolves s a (.error .scratchpadThroughKseg1)
  | irqCtl : inIrq a → Resolves s a (.ok (.irqCtl (virtPhys a - 0x1F801070)))
  | dmaReg : inDma a → Resolves s a (.ok (.dmaReg (virtPhys a - 0x1F801080)))
  | ext (r : ExtRange) : r ∈ s.cfg.externalRanges → inRange a r → Resolves s a (.ok (.ext r.name (virtPhys a - r.base)))
  | unmapped : inNothing s a → Resolves s a (.ok .unmapped)

section
variable {s : State} {a : Word}

theorem resolve_of_inRam (h : inRam s a) : resolve s.cfg a = .ok (.ram (virtPhys a % 0x200000)) := by
  rw [← phys_eq_virtPhys]
  exact resolve_ram (by rwa [phys_eq_virtPhys])

theorem resolve_of_inRom (hw : s.cfg.wf = true) (h : inRom a) : resolve s.cfg a = .ok (.rom (virtPhys a - 0x1FC00000)) := by
  rw [← phys_eq_virtPhys]
  exact resolve_rom hw (by rwa [phys_eq_virtPhys])

theorem resolve_of_inScratch (hw : s.cfg.wf = true) (h : inScratch a) (hk : ¬ inKseg1 a) :
    resolve s.cfg a = .ok (.scratch (virtPhys a - 0x1F800000)) := by
  rw [← phys_eq_virtPhys]
  exact (resolve_scratch hw (by rwa [phys_eq_virtPhys])).trans (if_neg (mt (segment_kseg1 a).1 hk))

theorem resolve_of_kseg1 (hw : s.cfg.wf = true) (h : inScratch a) (hk : inKseg1 a) :
    resolve s.cfg a = .error .scratchpadThroughKseg1 :=
  (resolve_scratch hw (by rwa [phys_eq_virtPhys])).trans (if_pos ((segment_kseg1 a).2 hk))

theorem resolve_of_inIrq (hw : s.cfg.wf = true) (h : inIrq a) : resolve s.cfg a = .ok (.irqCtl (virtPhys a - 0x1F801070)) := by
  rw [← phys_eq_virtPhys]
  exact resolve_irq hw (by rwa [phys_eq_virtPhys])

theorem resolve_of_inDma (hw : s.cfg.wf = true) (h : inDma a) : resolve s.cfg a = .ok (.dmaReg (virtPhys a - 0x1F801080)) := by
  rw [← phys_eq_virtPhys]
  exact resolve_dma hw (by rwa [phys_eq_virtPhys])

theorem resolve_of_inRange (hw : s.cfg.wf = true) {r : ExtRange} (hr : r ∈ s.cfg.externalRanges) (h : inRange a r) :
    resolve s.cfg a = .ok (.ext r.name (virtPhys a - r.base)) := by
  rw [← phys_eq_virtPhys]
  exact resolve_external hw hr (by rwa [phys_eq_virtPhys])

theorem resolve_of_inNothing (h : inNothing s a) : resolve s.cfg a = .ok .unmapped := by
  obtain ⟨hram, hrom, hscratch, hirq, hdma, hext⟩ := h
  rw [resolve_outside (by rwa [phys_eq_virtPhys]) (by rwa [phys_eq_virtPhys]) (by rwa [phys_eq_virtPhys])
    (by rwa [phys_eq_virtPhys]) (by rwa [phys_eq_virtPhys]), findRange_none (by rwa [phys_eq_virtPhys])]

/-- Under a well-formed configuration every address resolves to what its place says. -/
theorem resolve_resolves (hw : s.cfg.wf = true) (a : Word) : Resolves s a (resolve s.cfg a) := by
  by_cases hram : inRam s a
  · rw [resolve_of_inRam hram]; exact .ram hram
  by_cases hrom : inRom a
  · rw [resolve_of_inRom hw hrom]; exact .rom hrom
  by_cases hscratch : inScratch a
  · by_cases hk : inKseg1 a
    · rw [resolve_of_kseg1 hw hscratch hk]; exact .kseg1 hscratch hk
    · rw [resolve_of_inScratch hw hscratch hk]; exact .scratch hscratch hk
  by_cases hirq : inIrq a
  · rw [resolve_of_inIrq hw hirq]; exact .irqCtl hirq
  by_cases hdma : inDma a
  · rw [resolve_of_inDma hw hdma]; exact .dmaReg hdma
  by_cases hext : ∃ r ∈ s.cfg.externalRanges, inRange a r
  · obtain ⟨r, hr, h⟩ := hext
    rw [resolve_of_inRange hw hr h]; exact .ext r hr h
  · have hnone : inNothing s a := ⟨hram, hrom, hscratch, hirq, hdma, fun r hr h => hext ⟨r, hr, h⟩⟩
    rw [resolve_of_inNothing hnone]; exact .unmapped hnone

/-- An address that a program can store to resolves to the cell that memory keeps its byte in. -/
theorem resolve_of_inStore (hw : s.cfg.wf = true) (h : inStore s a) :
    ∃ r, resolve s.cfg a = .ok r ∧ r.ramOrScratch = some (cellOf s a) := by
  rcases h with h | ⟨h, hk⟩
  · exact ⟨_, resolve_of_inRam h, by rw [Region.ramOrScratch, cellOf, if_pos h]⟩
  · have := wf_ramWindow hw
    refine ⟨_, resolve_of_inScratch hw h hk, ?_⟩
    rw [Region.ramOrScratch, cellOf, if_neg (by omega), Config.scratchBase, Nat.add_sub_cancel' h.1]

/-- Outside RAM and the scratchpad an address resolves to a region of another kind. -/
theorem resolve_elsewhere (hw : s.cfg.wf = true) (hram : ¬ inRam s a) (hscratch : ¬ inScratch a) :
    ∃ r, resolve s.cfg a = .ok r ∧ r.ramOrScratch = none := by
  have h := resolve_resolves hw a
  generalize resolve s.cfg a = x at h
  cases h with
  | ram h => exact absurd h hram
  | scratch h => exact absurd h hscratch
  | kseg1 h => exact absurd h hscratch
  | _ => exact ⟨_, rfl, rfl⟩

/-! ### A data access of a region (20_memory R113, R114, R116, R117) -/

theorem memRead_of_isolated (h : isolated s) (a : Word) (w : Width) :
    memRead a w s = .ok (0#32, s.charge s.cfg.dataAccessCycles) := if_pos h

theorem memWrite_of_isolated (h : isolated s) (a : Word) (w : Width) (v : Word) :
    memWrite a w v s = .ok (s.charge s.cfg.dataAccessCycles) := if_pos h

theorem memRead_of_resolve {r : Region} (hi : ¬ isolated s) (hr : resolve s.cfg a = .ok r) (w : Width) :
    memRead a w s = readRegion r w (s.charge s.cfg.dataAccessCycles) := by
  refine (if_neg hi).trans ?_
  rw [hr]

theorem memWrite_of_resolve {r : Region} (hi : ¬ isolated s) (hr : resolve s.cfg a = .ok r) (w : Width) (v : Word) :
    memWrite a w v s = writeRegion r w v (s.charge s.cfg.dataAccessCycles) := by
  refine (if_neg hi).trans ?_
  rw [hr]

theorem memRead_of_unresolved {e : Refusal} (hi : ¬ isolated s) (hr : resolve s.cfg a = .error e) (w : Width) :
    memRead a w s = .error e := by
  refine (if_neg hi).trans ?_
  rw [hr]

theorem memWrite_of_unresolved {e : Refusal} (hi : ¬ isolated s) (hr : resolve s.cfg a = .error e) (w : Width) (v : Word) :
    memWrite a w v s = .error e := by
  refine (if_neg hi).trans ?_
  rw [hr]

theorem readRegion_ramOrScratch {r : Region} {k : Nat} (h : r.ramOrScratch = some k) (w : Width) (s : State) :
    readRegion r w s = .ok (Memory.readVal s.mem k w, s) := by
  cases r <;> cases h <;> rfl

theorem writeRegion_ramOrScratch {r : Region} {k : Nat} (h : r.ramOrScratch = some k) (w : Width) (v : Word) (s : State) :
    writeRegion r w v s = .ok { s with mem := Memory.writeVal s.mem k v w } := by
  cases r <;> cases h <;> rfl

theorem memRead_of_inStore (hw : s.cfg.wf = true) (hi : ¬ isolated s) (h : inStore s a) (w : Width) :
    memRead a w s = .ok (Memory.readVal s.mem (cellOf s a) w, s.charge s.cfg.dataAccessCycles) := by
  obtain ⟨r, hr, hk⟩ := resolve_of_inStore hw h
  rw [memRead_of_resolve hi hr, readRegion_ramOrScratch hk, State.charge_mem]

theorem memWrite_of_inStore (hw : s.cfg.wf = true) (hi : ¬ isolated s) (h : inStore s a) (w : Width) (v : Word) :
    memWrite a w v s =
      .ok { s.charge s.cfg.dataAccessCycles with mem := Memory.writeVal s.mem (cellOf s a) v w } := by
  obtain ⟨r, hr, hk⟩ := resolve_of_inStore hw h
  rw [memWrite_of_resolve hi hr, writeRegion_ramOrScratch hk, State.charge_mem]

/-- Settles O41: both addresses reach one cell, and memory reads back what a store wrote there. -/
theorem writeThenReadThroughAnyMirror : Obligations.WriteThenReadThroughAnyMirror := by
  unfold Obligations.WriteThenReadThroughAnyMirror
  intro s a b v w hw hm hi _ hab ha hb
  have hcell : cellOf s b = cellOf s a := by simp only [cellOf, inRam, hab]
  have hread := memRead_of_inStore
    (s := { s.charge s.cfg.dataAccessCycles with mem := Memory.writeVal s.mem (cellOf s a) v w }) hw hi hb w
  refine ⟨_, _, _, memWrite_of_inStore hw hi ha w v, hread, ?_⟩
  change (Memory.readVal (Memory.writeVal s.mem (cellOf s a) v w) (cellOf s b) w).toNat = _
  rw [hcell, Memory.readVal_writeVal hm, trunc_toNat]

end

end Sys2Proof.Machine
end

section
/-! SUPPORT. The fetch (20_memory R115), and the loads: a plain or partial load ends with what its data read answers
(43_loadstore R352 to R362). -/

namespace Sys2Proof.Machine

/-! ### The fetch -/

section
variable {s : State} {a : Word}

theorem fetchPlace_of_inRam (h : inRam s a) : fetchPlace s.cfg a = .ok (virtPhys a % 0x200000, 0) := by
  rw [fetchPlace, resolve_of_inRam h]

theorem fetchPlace_of_inRom (hw : s.cfg.wf = true) (h : inRom a) :
    fetchPlace s.cfg a = .ok (virtPhys a, s.cfg.romExtraCycles) := by
  rw [fetchPlace, resolve_of_inRom hw h]
  simp only [Config.romBase, Nat.add_sub_cancel' h.1]

theorem fetchPlace_of_kseg1 (hw : s.cfg.wf = true) (h : inScratch a) (hk : inKseg1 a) :
    fetchPlace s.cfg a = .error .scratchpadThroughKseg1 := by
  rw [fetchPlace, resolve_of_kseg1 hw h hk]

theorem fetchPlace_elsewhere (hw : s.cfg.wf = true) (hram : ¬ inRam s a) (hrom : ¬ inRom a)
    (hk : ¬ (inScratch a ∧ inKseg1 a)) : fetchPlace s.cfg a = .error .fetchOutsideRamAndRom := by
  have h := resolve_resolves hw a
  unfold fetchPlace
  generalize resolve s.cfg a = x at h
  cases h with
  | ram h => exact absurd h hram
  | rom h => exact absurd h hrom
  | kseg1 h h' => exact absurd ⟨h, h'⟩ hk
  | _ => rfl

/-- A step whose fetch is refused is refused (10_state R74). -/
theorem step_of_fetch_refused {e : Refusal} (hpc : s.pc.toNat % 4 = 0) (hm : s.refusalMark = false)
    (hwake : s.cycles < s.nextWake) (h : fetchPlace s.cfg s.pc = .error e) : step s = .refused e := by
  have heven : aligned .word s.startStep.pc = true := (aligned_iff .word s.pc).2 hpc
  have hfetch : fetchInstr s.startStep.pc s.startStep = .error e := by
    simp only [fetchInstr, State.startStep_pc, State.startStep_cfg, h]
  rw [step_eq_cpuStep hm hwake, cpuStep, if_pos heven, hfetch]

end

/-- Settles O2: by what the fetch address resolves to. -/
theorem fetchFindsRamAndRom : Obligations.FetchFindsRamAndRom := by
  unfold Obligations.FetchFindsRamAndRom
  intro s hw hpc
  refine ⟨fetchPlace_of_inRam, fetchPlace_of_inRom hw, fun hram hrom hm hwake => ⟨fun ⟨h, hk⟩ => ?_, fun hk => ?_⟩⟩
  · exact step_of_fetch_refused hpc hm hwake (fetchPlace_of_kseg1 hw h hk)
  · exact step_of_fetch_refused hpc hm hwake (fetchPlace_elsewhere hw hram hrom hk)

/-! ### What a load does with the value read -/

/-- The sign extension of the low bits of a word that holds nothing else, by number. -/
theorem signExtend_low {n : Nat} (hn : 0 < n) {x : Word} (hx : x.toNat < 2 ^ n) :
    (x.extractLsb' 0 n).signExtend 32 =
      if 2 ^ (n - 1) ≤ x.toNat then BitVec.ofInt 32 ((x.toNat : Int) - 2 ^ n) else BitVec.ofNat 32 x.toNat := by
  have hlow : (x.extractLsb' 0 n).toNat = x.toNat := by
    rw [BitVec.extractLsb'_toNat, Nat.shiftRight_zero, Nat.mod_eq_of_lt hx]
  have hpow : 2 ^ n = 2 * 2 ^ (n - 1) := by rw [← pow_succ', Nat.sub_add_cancel hn]
  rw [BitVec.signExtend, BitVec.toInt, hlow]
  split_ifs
  · omega
  · exact BitVec.ofInt_natCast _ _
  · norm_cast
  · omega

/-- A plain load is a load of its form, and extends the value read as its form does. -/
theorem exec_plainLoad_extend {i : Instr} {f : AccessForm} (h : i.plainLoad = some f) :
    ∃ ext, (∀ s, exec i s = load f.width ext f.rt (s.ea f.rs f.imm) s) ∧
      ∀ x : Word, x.toNat < 2 ^ (8 * f.width.bytes) → ext x = f.extend x.toNat := by
  have unsigned (f : AccessForm) (hf : f.signed = false) (x : Word) : id x = f.extend x.toNat := by
    simp [AccessForm.extend, hf]
  unfold Instr.plainLoad at h
  split at h <;> cases h
  · exact ⟨sextByte, fun _ => rfl, fun x hx =>
      (signExtend_low (Nat.succ_pos _) hx).trans (by simp [AccessForm.extend, Width.bytes])⟩
  · exact ⟨id, fun _ => rfl, fun x _ => unsigned _ rfl x⟩
  · exact ⟨sextHalf, fun _ => rfl, fun x hx =>
      (signExtend_low (Nat.succ_pos _) hx).trans (by simp [AccessForm.extend, Width.bytes])⟩
  · exact ⟨id, fun _ => rfl, fun x _ => unsigned _ rfl x⟩
  · exact ⟨id, fun _ => rfl, fun x _ => unsigned _ rfl x⟩

section
variable {s u : State} {i : Instr} {f : AccessForm} {x : Word}

/-- A plain load whose read answers ends with the extended value as its delayed load. -/
theorem plainLoad_next (hi : i.plainLoad = some f) (ha : alignedTo f.width (s.ea f.rs f.imm))
    (hr : memRead (s.ea f.rs f.imm) f.width s = .ok (x, u)) (hx : x.toNat < 2 ^ (8 * f.width.bytes)) :
    ∃ t, exec i s = .next t ∧ EndsWith u t none (some ⟨f.rt, f.extend x.toNat⟩) := by
  obtain ⟨ext, hexec, hext⟩ := exec_plainLoad_extend hi
  refine ⟨_, ?_, u.commit_endsWith none (some ⟨f.rt, f.extend x.toNat⟩)⟩
  rw [hexec, load, if_pos ((aligned_iff _ _).2 ha), hr, ← hext x hx]
  rfl

theorem plainLoad_refused {e : Refusal} (hi : i.plainLoad = some f) (ha : alignedTo f.width (s.ea f.rs f.imm))
    (hr : memRead (s.ea f.rs f.imm) f.width s = .error e) : exec i s = .refused e := by
  obtain ⟨ext, hexec⟩ := exec_plainLoad hi
  rw [hexec, load, if_pos ((aligned_iff _ _).2 ha), hr]

end

/-! ### What the regions answer (20_memory R113, R125; 60_exceptions R502) -/

theorem leNat_lt (m : Memory) (k n : Nat) : leNat m k n < 2 ^ (8 * n) := by
  induction n generalizing k with
  | zero => exact Nat.one_pos
  | succ n ih =>
    have hbyte := (Memory.read m k).isLt
    have hrest := ih (k + 1)
    rw [leNat, show 8 * (n + 1) = 8 * n + 8 by omega, pow_add]
    omega

theorem accessCycles_of_not_inRom {s : State} {a : Word} (h : ¬ inRom a) : accessCycles s a = s.cfg.dataAccessCycles := by
  rw [accessCycles, if_neg fun hc => h hc.2, Nat.add_zero]

theorem accessCycles_of_isolated {s : State} (h : isolated s) (a : Word) : accessCycles s a = s.cfg.dataAccessCycles := by
  rw [accessCycles, if_neg fun hc => hc.1 h, Nat.add_zero]

theorem accessCycles_of_inRom {s : State} {a : Word} (hi : ¬ isolated s) (h : inRom a) :
    accessCycles s a = s.cfg.dataAccessCycles + s.cfg.romExtraCycles := by
  rw [accessCycles, if_pos ⟨hi, h⟩]

theorem State.charge_charge (s : State) (m n : Nat) : (s.charge m).charge n = s.charge (m + n) := by
  simp only [State.charge, Nat.add_assoc]

@[simp] theorem State.charge_dmaRegValue (s : State) (n : Nat) (r : DmaReg) :
    (s.charge n).dmaRegValue r = s.dmaRegValue r := by
  cases r <;> rfl

theorem not_inRom_of_inStore {s : State} {a : Word} (hw : s.cfg.wf = true) (h : inStore s a) : ¬ inRom a := by
  have := wf_ramWindow hw
  omega

/-- A halfword or word read of I_STAT or I_MASK answers the register, and 0 in the upper halves (20_memory R125). -/
theorem irqRead_of_ne_byte {w : Width} (hw : w ≠ .byte) (o : Nat) (s : State) :
    irqRead o w s = .ok (if o = 0 then s.iStat.setWidth 32 else if o = 4 then s.iMask.setWidth 32 else 0#32) := by
  rw [irqRead, if_neg hw]
  split_ifs <;> rfl

theorem memRead_of_inIrq {s : State} {a : Word} {w : Width} (hw : s.cfg.wf = true) (hi : ¬ isolated s) (h : inIrq a)
    (hb : w ≠ .byte) : memRead a w s =
      .ok (if virtPhys a = 0x1F801070 then s.iStat.setWidth 32 else if virtPhys a = 0x1F801074 then s.iMask.setWidth 32
        else 0#32, s.charge (accessCycles s a)) := by
  have hstat : virtPhys a - 0x1F801070 = 0 ↔ virtPhys a = 0x1F801070 := by omega
  have hmask : virtPhys a - 0x1F801070 = 4 ↔ virtPhys a = 0x1F801074 := by omega
  rw [memRead_of_resolve hi (resolve_of_inIrq hw h), readRegion, irqRead_of_ne_byte hb, accessCycles_of_not_inRom (by omega)]
  simp only [hstat, hmask]
  rfl

/-- The read of an answer of the Bus: it charges the access, answers that number, and the number fits the width. -/
theorem memRead_of_answers {s : State} {a : Word} {w : Width} {v : Nat} (hw : s.cfg.wf = true) (h : Answers s a w v) :
    ∃ x : Word, memRead a w s = .ok (x, s.charge (accessCycles s a)) ∧ x.toNat = v ∧ v < 2 ^ (8 * w.bytes) := by
  have zero_lt : 0 < 2 ^ (8 * w.bytes) := Nat.two_pow_pos _
  have half_lt (hb : w ≠ .byte) (y : BitVec 16) : y.toNat < 2 ^ (8 * w.bytes) := by
    have := y.isLt
    cases w with
    | byte => exact absurd rfl hb
    | half => exact this
    | word => simp only [Width.bytes]; omega
  cases h with
  | isolated hi =>
    exact ⟨0#32, by rw [memRead_of_isolated hi, accessCycles_of_isolated hi], rfl, zero_lt⟩
  | memory hi h =>
    refine ⟨Memory.readVal s.mem (cellOf s a) w, ?_, readVal_toNat _ _ _, leNat_lt _ _ _⟩
    rcases h with h | h
    · rw [memRead_of_inStore hw hi h, accessCycles_of_not_inRom (not_inRom_of_inStore hw h)]
    · have hcell : cellOf s a = virtPhys a := if_neg fun hram => not_inRom_of_inStore hw (.inl hram) h
      rw [memRead_of_resolve hi (resolve_of_inRom hw h), readRegion, Config.romBase, Nat.add_sub_cancel' h.1, hcell,
        State.charge_charge, accessCycles_of_inRom hi h]
      rfl
  | iStat hi hb hp =>
    exact ⟨s.iStat.setWidth 32, by rw [memRead_of_inIrq hw hi (by omega) hb, if_pos hp],
      BitVec.toNat_setWidth_of_le (by decide), half_lt hb _⟩
  | iMask hi hb hp =>
    exact ⟨s.iMask.setWidth 32, by rw [memRead_of_inIrq hw hi (by omega) hb, if_neg (by omega), if_pos hp],
      BitVec.toNat_setWidth_of_le (by decide), half_lt hb _⟩
  | upper hi hb hp =>
    exact ⟨0#32, by rw [memRead_of_inIrq hw hi (by omega) hb, if_neg (by omega), if_neg (by omega)], rfl, zero_lt⟩
  | dma hi hword h =>
    subst hword
    refine ⟨dmaWord s (virtPhys a - 0x1F801080), ?_, rfl, BitVec.isLt _⟩
    rw [memRead_of_resolve hi (resolve_of_inDma hw h), readRegion, dmaRead, if_pos rfl, State.charge_dmaRegValue,
      dmaRegValue_eq, accessCycles_of_not_inRom (by omega)]
    rfl
  | unmapped hi h =>
    refine ⟨0#32, ?_, rfl, zero_lt⟩
    rw [memRead_of_resolve hi (resolve_of_inNothing h), readRegion, accessCycles_of_not_inRom h.2.1]

/-- Settles O29: the read answers the number, and the load extends it. -/
theorem loadsAnswer : Obligations.LoadsAnswer := by
  unfold Obligations.LoadsAnswer
  intro s i f v hw hi ha h
  obtain ⟨x, hread, rfl, hx⟩ := memRead_of_answers hw h
  exact plainLoad_next hi ha hread hx

/-! ### External ranges (20_memory R118) -/

/-- The state at the collaborator's turn of a read from an external range: charged, drawn and recorded (log 11). -/
def State.recordRead (s : State) (name : String) (o : Nat) (w : Width) : State :=
  { s with
    cycles := s.cycles + s.cfg.dataAccessCycles, draws := s.draws + 1, extLog := .read name o w :: s.extLog }

/-- A read of an external range whose collaborator's turn is allowed answers a draw cut to the width, and that turn. -/
theorem memRead_of_inRange {s : State} {a : Word} {r : ExtRange} {w : Width} (hw : s.cfg.wf = true) (hi : ¬ isolated s)
    (hr : r ∈ s.cfg.externalRanges) (ha : inRange a r)
    (hallowed : (s.recordRead r.name (virtPhys a - r.base) w).turnAllowed) :
    ∃ m, memRead a w s = .ok (w.trunc (Config.drawWord s.draws), m) ∧
      TookTurn (s.recordRead r.name (virtPhys a - r.base) w) m := by
  obtain ⟨m, hturn, hm⟩ := collaboratorTurn_of_allowed hallowed
  have hread {u : State} (hu : collaboratorTurn { u.draw.2 with extLog := .read r.name (virtPhys a - r.base) w :: u.extLog } =
      .ok m) : extRead r.name (virtPhys a - r.base) w u = .ok (w.trunc u.draw.1, m) := by rw [extRead, hu]
  rw [memRead_of_resolve hi (resolve_of_inRange hw hr ha), readRegion]
  exact ⟨m, hread hturn, hm⟩

theorem loadPartial_of_memRead {s u : State} {a x : Word} (hr : memRead (alignedWord a) .word s = .ok (x, u))
    (merge : BitVec 2 → Word → Word → Word) (rt : Reg) :
    loadPartial merge rt a s = .next (u.commit none (some ⟨rt, merge (lowBits a) (s.pend rt) x⟩)) := by
  rw [loadPartial, hr]
  rfl

/-- Settles O32: the read of an external range, and what a plain and a partial load make of the drawn value. -/
theorem externalLoads : Obligations.ExternalLoads := by
  unfold Obligations.ExternalLoads
  dsimp only
  refine fun s r hw hi hr => ⟨fun i f hf ha hrange hallowed => ?_, fun rt rs imm hrange hallowed => ?_⟩
  · obtain ⟨m, hread, hm⟩ := memRead_of_inRange hw hi hr hrange hallowed
    obtain ⟨t, ht, hends⟩ := plainLoad_next hf ha hread (by rw [trunc_toNat]; exact Nat.mod_lt _ (Nat.two_pow_pos _))
    rw [trunc_toNat] at hends
    exact ⟨t, m, ht, hm, hends⟩
  · obtain ⟨m, hread, hm⟩ := memRead_of_inRange hw hi hr hrange hallowed
    rw [← alignedWord_eq] at hread
    exact ⟨⟨_, m, _, loadPartial_of_memRead hread lwlMerge rt, hm, State.commit_endsWith _ _ _, lwlMerge_byte _ _ _⟩,
      ⟨_, m, _, loadPartial_of_memRead hread lwrMerge rt, hm, State.commit_endsWith _ _ _, lwrMerge_byte _ _ _⟩⟩

end Sys2Proof.Machine
end

section
/-! SUPPORT. The stores: a plain or partial store ends with what its data write does (43_loadstore R353, R363 to R368), region by
region, and the accesses that are refused (60_exceptions R447). -/

namespace Sys2Proof.Machine

/-! ### What a store does with its write -/

section
variable {s u : State} {i : Instr} {f : AccessForm}

/-- A plain store whose write is made ends in the state after it. -/
theorem plainStore_next (hi : i.plainStore = some f) (ha : alignedTo f.width (s.ea f.rs f.imm))
    (hwrite : memWrite (s.ea f.rs f.imm) f.width (s.readReg f.rt) s = .ok u) :
    ∃ t, exec i s = .next t ∧ EndsWith u t none none := by
  refine ⟨_, ?_, u.commit_endsWith none none⟩
  rw [exec_plainStore hi, store, if_pos ((aligned_iff _ _).2 ha), hwrite]
  rfl

theorem plainStore_refused {e : Refusal} (hi : i.plainStore = some f) (ha : alignedTo f.width (s.ea f.rs f.imm))
    (hwrite : memWrite (s.ea f.rs f.imm) f.width (s.readReg f.rt) s = .error e) : exec i s = .refused e := by
  rw [exec_plainStore hi, store, if_pos ((aligned_iff _ _).2 ha), hwrite]

/-- A plain access is refused where its read and its write are. -/
theorem plainAccess_refused {e : Refusal} (hi : i.plainLoad = some f ∨ i.plainStore = some f)
    (ha : alignedTo f.width (s.ea f.rs f.imm)) (hread : memRead (s.ea f.rs f.imm) f.width s = .error e)
    (hwrite : ∀ v, memWrite (s.ea f.rs f.imm) f.width v s = .error e) : exec i s = .refused e :=
  hi.elim (plainLoad_refused · ha hread) (plainStore_refused · ha (hwrite _))

end

/-! ### Memory, and the stores that are dropped -/

/-- Settles O33: the write puts the bytes of the value at the cell of the address, and leaves every other. -/
theorem storesToMemory : Obligations.StoresToMemory := by
  unfold Obligations.StoresToMemory
  intro s i f hw hm hi ha hiso h
  obtain ⟨t, ht, hends⟩ := plainStore_next hi ha (memWrite_of_inStore hw hiso h _ _)
  refine ⟨t, _, ht, hends, fun j hj => ?_, fun b hb => Memory.read_writeVal_outside _ _ _ hb⟩
  rw [Memory.read_writeVal hm, byteAt, if_pos (by omega), Option.getD_some, Nat.add_sub_cancel_left, byteOfWord_toNat]

/-- A write that is isolated, or reaches ROM or nothing, is dropped and charges its access (20_memory R114, R116, R117). -/
theorem memWrite_dropped {s : State} {a : Word} (hw : s.cfg.wf = true) (h : isolated s ∨ inRom a ∨ inNothing s a) (w : Width)
    (v : Word) : memWrite a w v s = .ok (s.charge (accessCycles s a)) := by
  by_cases hi : isolated s
  · rw [memWrite_of_isolated hi, accessCycles_of_isolated hi]
  rcases h.resolve_left hi with h | h
  · rw [memWrite_of_resolve hi (resolve_of_inRom hw h), writeRegion, State.charge_charge, accessCycles_of_inRom hi h]
    rfl
  · rw [memWrite_of_resolve hi (resolve_of_inNothing h), writeRegion, accessCycles_of_not_inRom h.2.1]

theorem storeMerged_of_isolated {s : State} (h : isolated s) (merge : BitVec 2 → Word → Word → Word) (rt : Reg) (a : Word) :
    storeMerged merge rt a s = .next ((s.charge s.cfg.dataAccessCycles).commit none none) := by
  have hpartial (m : Word → Word) : storePartial (alignedWord a) m s = .ok (s.charge s.cfg.dataAccessCycles) := if_pos h
  rw [storeMerged, hpartial]
  rfl

/-- Settles O34: a plain store by its dropped write, a partial one by the first branch of its definition. -/
theorem droppedStores : Obligations.DroppedStores := by
  unfold Obligations.DroppedStores
  refine fun s hw => ⟨fun i f hi ha h => plainStore_next hi ha (memWrite_dropped hw h _ _), fun rt rs imm h => ⟨?_, ?_⟩⟩
  · exact ⟨_, storeMerged_of_isolated h swlMerge rt _, State.commit_endsWith _ _ _⟩
  · exact ⟨_, storeMerged_of_isolated h swrMerge rt _, State.commit_endsWith _ _ _⟩

/-! ### External ranges and the interrupt controller -/

theorem trunc_eq_ofNat (w : Width) (v : Word) : w.trunc v = BitVec.ofNat 32 (v.toNat % 2 ^ (8 * w.bytes)) := by
  rw [← trunc_toNat, BitVec.ofNat_toNat, BitVec.setWidth_eq]

/-- Settles O36: the write of an external range is recorded, and the collaborator's turn is allowed. -/
theorem externalStores : Obligations.ExternalStores := by
  unfold Obligations.ExternalStores
  dsimp only
  intro s i f r hw hi ha hiso hr hrange hallowed
  obtain ⟨m, hturn, hm⟩ := collaboratorTurn_of_allowed hallowed
  obtain ⟨t, ht, hends⟩ := plainStore_next (u := m) hi ha (by
    rw [memWrite_of_resolve hiso (resolve_of_inRange hw hr hrange), writeRegion, extWrite, trunc_eq_ofNat]
    exact hturn)
  exact ⟨t, m, ht, hm, hends⟩

/-- A halfword or word write of I_STAT acknowledges, of I_MASK replaces, and of the upper halves does nothing (20_memory R120,
R121, R125). -/
theorem memWrite_of_inIrq {s : State} {a : Word} {w : Width} (hw : s.cfg.wf = true) (hi : ¬ isolated s) (h : inIrq a)
    (hb : w ≠ .byte) (v : Word) : memWrite a w v s =
      .ok (if virtPhys a = 0x1F801070 then
          { s.charge s.cfg.dataAccessCycles with iStat := s.iStat &&& v.extractLsb' 0 16 }
        else if virtPhys a = 0x1F801074 then { s.charge s.cfg.dataAccessCycles with iMask := v.extractLsb' 0 16 }
        else s.charge s.cfg.dataAccessCycles) := by
  have hstat : virtPhys a - 0x1F801070 = 0 ↔ virtPhys a = 0x1F801070 := by omega
  have hmask : virtPhys a - 0x1F801070 = 4 ↔ virtPhys a = 0x1F801074 := by omega
  rw [memWrite_of_resolve hi (resolve_of_inIrq hw h), writeRegion, irqWrite, if_neg hb]
  simp only [hstat, hmask]
  split_ifs <;> rfl

/-- Settles O37: the write of the interrupt controller by its three places. -/
theorem interruptRegisterStores : Obligations.InterruptRegisterStores := by
  unfold Obligations.InterruptRegisterStores
  dsimp only
  intro s i f hw hi hb ha hiso
  refine ⟨fun hp => ?_, fun hp => ?_, fun hp => ?_⟩
  · obtain ⟨t, ht, hends⟩ := plainStore_next hi ha
      ((memWrite_of_inIrq hw hiso (by omega) hb _).trans (congrArg _ (if_pos hp)))
    refine ⟨t, _, ht, hends, fun k hk => ?_⟩
    rw [BitVec.getLsbD_and, BitVec.getLsbD_extractLsb', decide_eq_true hk, Bool.true_and, Nat.zero_add]
  · obtain ⟨t, ht, hends⟩ := plainStore_next hi ha
      ((memWrite_of_inIrq hw hiso (by omega) hb _).trans (congrArg _ ((if_neg (by omega)).trans (if_pos hp))))
    exact ⟨t, _, ht, hends, BitVec.extractLsb'_toNat _ _ _⟩
  · exact plainStore_next hi ha
      ((memWrite_of_inIrq hw hiso (by omega) hb _).trans (congrArg _ ((if_neg (by omega)).trans (if_neg (by omega)))))

/-! ### DICR (60_exceptions R507 to R512) -/

/-- The master value is the master flag (60_exceptions R510). -/
theorem masterValue_iff (d : Word) : masterValue d = true ↔ masterFlag d := by
  have hlines : (d.extractLsb' 16 7 &&& d.extractLsb' 24 7 != 0#7) = true ↔
      ∃ n, n < 7 ∧ d.getLsbD (16 + n) = true ∧ d.getLsbD (24 + n) = true := by
    rw [bne_iff_ne, ne_zero_iff_bit]
    refine exists_congr fun n => and_congr_right fun hn => ?_
    simp [hn]
  rw [masterValue, masterFlag, Bool.or_eq_true, Bool.and_eq_true, hlines]

/-- A new value of DICR that keeps bit 31, where the interrupt of its rise would lie below the sentinel (60_exceptions R511,
R512). -/
theorem updateMaster_newDicr {s : State} {d : Word} {bits : Nat → Bool}
    (hlt : s.cycles + s.cfg.dmaIrqDelay < 2 ^ 64 - 1) (hbits : ∀ k, k < 31 → d.getLsbD k = bits k)
    (hmaster : d.getLsbD 31 = s.dicr.getLsbD 31) : ∃ t, updateMaster d s = .ok t ∧ NewDicr s t bits := by
  have low (k : Nat) (hk : k < 31) : (withMaster d).getLsbD k = bits k := by
    rw [withMaster_bit, if_neg (by omega), hbits k hk]
  have flag : masterFlag (withMaster d) ↔ masterValue d = true := by rw [← masterValue_iff, masterValue_withMaster]
  have master : (withMaster d).getLsbD 31 = true ↔ masterFlag (withMaster d) := by rw [flag, withMaster_bit, if_pos rfl]
  have rises : (!d.getLsbD 31 && masterValue d) = true ↔ s.dicr.getLsbD 31 = false ∧ masterValue d = true := by
    rw [hmaster, Bool.and_eq_true, Bool.not_eq_true']
  by_cases hrise : s.dicr.getLsbD 31 = false ∧ masterValue d = true
  · refine ⟨{ s with
        dicr := withMaster d, queue := s.queue ++ [⟨s.cycles + s.cfg.dmaIrqDelay, s.seq, .irq 3⟩], seq := s.seq + 1,
        nextWake := min s.nextWake (s.cycles + s.cfg.dmaIrqDelay) }, ?_, low, master, fun _ _ => ⟨rfl, rfl, rfl⟩,
      fun h => ?_, rfl⟩
    · rw [updateMaster, if_pos (rises.2 hrise), scheduleInterrupt]
      exact scheduleEvent_of_lt (s := { s with dicr := withMaster d }) hlt _
    · rcases h with h | h
      · rw [hrise.1] at h; cases h
      · exact absurd (flag.2 hrise.2) h
  · refine ⟨{ s with dicr := withMaster d }, ?_, low, master, fun h h' => absurd ⟨h, flag.1 h'⟩ hrise,
      fun _ => ⟨rfl, rfl, rfl⟩, rfl⟩
    rw [updateMaster, if_neg (mt rises.1 hrise)]

/-- The bits of a CPU write to DICR (60_exceptions R508). -/
theorem dicrWritten_bit (old v : Word) {k : Nat} (hk : k < 32) : (dicrWritten old v).getLsbD k =
    if k = 31 then old.getLsbD k
    else if k < 6 ∨ (15 ≤ k ∧ k < 24) then v.getLsbD k
    else if 24 ≤ k then old.getLsbD k && !v.getLsbD k
    else false := by
  simp only [dicrWritten, BitVec.getLsbD_or, BitVec.getLsbD_and, BitVec.getLsbD_not]
  interval_cases k <;> simp

/-! ### The DMA registers (60_exceptions R502) -/

theorem dmaRegAt_madr : ∀ n : Fin 7, dmaRegAt (16 * n.val) = .madr n := by decide
theorem dmaRegAt_bcr : ∀ n : Fin 7, dmaRegAt (16 * n.val + 4) = .bcr n := by decide
theorem dmaRegAt_chcr : ∀ n : Fin 7, dmaRegAt (16 * n.val + 8) = .chcr n := by decide
theorem dmaRegAt_gap : ∀ n : Fin 7, dmaRegAt (16 * n.val + 12) = .unused := by decide

/-- A word written to the DMA window is written to the register there, after the charge. -/
theorem memWrite_of_inDma {s : State} {a : Word} (hw : s.cfg.wf = true) (hi : ¬ isolated s) (h : inDma a) {r : DmaReg}
    (hr : dmaRegAt (virtPhys a - 0x1F801080) = r) (v : Word) :
    memWrite a .word v s = dmaRegWrite r v (s.charge s.cfg.dataAccessCycles) := by
  rw [memWrite_of_resolve hi (resolve_of_inDma hw h), writeRegion, dmaWrite, if_pos rfl, hr]

/-- Settles O38: SW writes the register that its offset names; a CHCR write that leaves no channel active starts an empty pass. -/
theorem dmaRegisterStores : Obligations.DmaRegisterStores := by
  unfold Obligations.DmaRegisterStores
  dsimp only
  intro s rt rs imm hw ha hi h
  have stores {r : DmaReg} {u : State} (hr : dmaRegAt (virtPhys (s.ea rs imm) - 0x1F801080) = r)
      (hu : dmaRegWrite r (s.readReg rt) (s.charge s.cfg.dataAccessCycles) = .ok u) :
      ∃ t, exec (.sw rt rs imm) s = .next t ∧ EndsWith u t none none :=
    plainStore_next (i := .sw rt rs imm) rfl ha ((memWrite_of_inDma hw hi h hr _).trans hu)
  refine ⟨fun n ho => ?_, fun n ho => ?_, fun n ho hnone => ?_, fun ho => ?_, fun ho hlt => ?_, fun ho => ?_⟩
  · exact stores (by rw [ho, dmaRegAt_madr]) rfl
  · exact stores (by rw [ho, dmaRegAt_bcr]) rfl
  · exact stores (r := .chcr n) (by rw [ho, dmaRegAt_chcr]) (channelPasses_of_inactive
      (s := (s.charge s.cfg.dataAccessCycles).setChannel n { s.chans[n] with chcr := s.readReg rt }) hnone _)
  · exact stores (r := .dpcr) (by rw [ho]; rfl) rfl
  · obtain ⟨m, hm, hnew⟩ := updateMaster_newDicr (s := s.charge s.cfg.dataAccessCycles) hlt
      (fun k hk => (dicrWritten_bit s.dicr (s.readReg rt) (by omega)).trans (if_neg (by omega)))
      (dicrWritten_bit s.dicr (s.readReg rt) (by decide))
    obtain ⟨t, ht, hends⟩ := stores (r := .dicr) (by rw [ho]; rfl) hm
    exact ⟨t, m, ht, hends, hnew⟩
  · refine stores (r := .unused) ?_ rfl
    rcases ho with ⟨n, hn, ho⟩ | ho | ho
    · rw [ho]; exact dmaRegAt_gap ⟨n, hn⟩
    · rw [ho]; rfl
    · rw [ho]; rfl

/-! ### The accesses that are refused (60_exceptions R447) -/

section
variable {s : State} {a : Word}

theorem loadPartial_refused {e : Refusal} (h : memRead (alignedWord a) .word s = .error e)
    (merge : BitVec 2 → Word → Word → Word) (rt : Reg) : loadPartial merge rt a s = .refused e := by
  rw [loadPartial, h]

theorem storeMerged_of_unresolved {e : Refusal} (hi : ¬ isolated s) (hr : resolve s.cfg (alignedWord a) = .error e)
    (merge : BitVec 2 → Word → Word → Word) (rt : Reg) : storeMerged merge rt a s = .refused e := by
  have hpartial (m : Word → Word) : storePartial (alignedWord a) m s = .error e := (if_neg hi).trans (by rw [hr])
  rw [storeMerged, hpartial]

/-- SWL and SWR reach RAM and the scratchpad alone (43_loadstore R364). -/
theorem storeMerged_elsewhere (hi : ¬ isolated s) {r : Region} (hr : resolve s.cfg (alignedWord a) = .ok r)
    (hk : r.ramOrScratch = none) (merge : BitVec 2 → Word → Word → Word) (rt : Reg) :
    storeMerged merge rt a s = .refused .partialStoreOutsideRamAndScratchpad := by
  have hpartial (m : Word → Word) :
      storePartial (alignedWord a) m s = .error .partialStoreOutsideRamAndScratchpad :=
    (if_neg hi).trans (by simp only [hr, hk])
  rw [storeMerged, hpartial]

/-- The interrupt controller refuses bytes (20_memory R125). -/
theorem irq_refuses_byte (hw : s.cfg.wf = true) (hi : ¬ isolated s) (h : inIrq a) :
    memRead a .byte s = .error .byteAccessToInterruptController ∧
      ∀ v, memWrite a .byte v s = .error .byteAccessToInterruptController := by
  have hr := resolve_of_inIrq hw h
  refine ⟨?_, fun v => ?_⟩
  · rw [memRead_of_resolve hi hr, readRegion, irqRead, if_pos rfl]
    rfl
  · rw [memWrite_of_resolve hi hr, writeRegion, irqWrite, if_pos rfl]

/-- The DMA registers refuse what is not a word (60_exceptions R502). -/
theorem dma_refuses_narrow (hw : s.cfg.wf = true) (hi : ¬ isolated s) (h : inDma a) {w : Width} (hn : w ≠ .word) :
    memRead a w s = .error .narrowAccessToDma ∧ ∀ v, memWrite a w v s = .error .narrowAccessToDma := by
  have hr := resolve_of_inDma hw h
  refine ⟨?_, fun v => ?_⟩
  · rw [memRead_of_resolve hi hr, readRegion, dmaRead, if_neg hn]
    rfl
  · rw [memWrite_of_resolve hi hr, writeRegion, dmaWrite, if_neg hn]

end

/-- Settles O39: each refusal where its address resolves, for plain accesses and then for partial ones. -/
theorem refusedAccesses : Obligations.RefusedAccesses := by
  unfold Obligations.RefusedAccesses
  dsimp only
  refine fun s hw hi => ⟨fun i f hif ha => ⟨fun h hk => ?_, fun h hb => ?_, fun h hn => ?_⟩, fun rt rs imm => ?_⟩
  · have hr := resolve_of_kseg1 hw h hk
    exact plainAccess_refused hif ha (memRead_of_unresolved hi hr _) fun v => memWrite_of_unresolved hi hr _ v
  · obtain ⟨hread, hwrite⟩ := irq_refuses_byte hw hi h
    rw [← hb] at hread hwrite
    exact plainAccess_refused hif ha hread hwrite
  · obtain ⟨hread, hwrite⟩ := dma_refuses_narrow hw hi h hn
    exact plainAccess_refused hif ha hread hwrite
  · rw [← alignedWord_eq]
    refine ⟨fun h hk => ?_, fun hram hscratch => ?_⟩
    · have hr := resolve_of_kseg1 hw h hk
      have hread := memRead_of_unresolved hi hr .word
      exact ⟨loadPartial_refused hread _ _, loadPartial_refused hread _ _, storeMerged_of_unresolved hi hr _ _,
        storeMerged_of_unresolved hi hr _ _⟩
    · obtain ⟨r, hr, hk⟩ := resolve_elsewhere hw hram hscratch
      exact ⟨storeMerged_elsewhere hi hr hk _ _, storeMerged_elsewhere hi hr hk _ _⟩

end Sys2Proof.Machine
end

section
/-! SUPPORT. Decoding (30_encoding R190 to R199): what a word of each format decodes to, the row and the reserved cells of each map,
and the round trip of the encoder. -/

namespace Sys2Proof

/-! ### Which map decodes a word -/

theorem decode_of_special {w : Word} (hop : opOf w = 0#6) : decode w = decodeSpecial w := by
  rw [decode, hop]
  rfl

theorem decode_of_regimm {w : Word} (hop : opOf w = 1#6) : decode w = decodeRegimm w := by
  rw [decode, hop]
  rfl

theorem decode_of_cop0Rs {w : Word} (hop : opOf w = 0x10#6) (hco : coOf w = false) : decode w = decodeCop0Rs w := by
  rw [decode, hop]
  exact if_neg (by simp [hco])

theorem decode_of_cop0Co {w : Word} (hop : opOf w = 0x10#6) (hco : coOf w = true) : decode w = decodeCop0Co w := by
  rw [decode, hop]
  exact if_pos hco

/-! ### A word built by a format decodes as any word with its fields does -/

theorem decode_mkI {op : BitVec 6} {rs rt : Reg} {imm : Half} {i : Instr}
    (h : ∀ w, opOf w = op → rsOf w = rs → rtOf w = rt → immOf w = imm → decode w = i) : decode (mkI op rs rt imm) = i :=
  h _ (opOf_mkI ..) (rsOf_mkI ..) (rtOf_mkI ..) (immOf_mkI ..)

theorem decode_mkJ {op : BitVec 6} {tg : BitVec 26} {i : Instr} (h : ∀ w, opOf w = op → targetOf w = tg → decode w = i) :
    decode (mkJ op tg) = i :=
  h _ (opOf_mkJ ..) (targetOf_mkJ ..)

theorem decode_mkR_special {rs rt rd : Reg} {sh : BitVec 5} {fn : BitVec 6} {i : Instr}
    (h : ∀ w, functOf w = fn → rsOf w = rs → rtOf w = rt → rdOf w = rd → shamtOf w = sh → decodeSpecial w = i) :
    decode (mkR 0#6 rs rt rd sh fn) = i :=
  (decode_of_special (opOf_mkR ..)).trans
    (h _ (functOf_mkR ..) (rsOf_mkR ..) (rtOf_mkR ..) (rdOf_mkR ..) (shamtOf_mkR ..))

theorem decode_mkCode {code : BitVec 20} {fn : BitVec 6} {i : Instr}
    (h : ∀ w, functOf w = fn → codeOf w = code → decodeSpecial w = i) : decode (mkCode code fn) = i :=
  (decode_of_special (opOf_mkCode ..)).trans (h _ (functOf_mkCode ..) (codeOf_mkCode ..))

theorem decode_mkI_regimm {rs c : Reg} {imm : Half} {i : Instr}
    (h : ∀ w, rtOf w = c → rsOf w = rs → immOf w = imm → decodeRegimm w = i) : decode (mkI 1#6 rs c imm) = i :=
  (decode_of_regimm (opOf_mkI ..)).trans (h _ (rtOf_mkI ..) (rsOf_mkI ..) (immOf_mkI ..))

theorem decode_mkR_cop0Rs {rs rt rd : Reg} {sh : BitVec 5} {fn : BitVec 6} {i : Instr} (hco : rs.getLsbD 4 = false)
    (h : ∀ w, rsOf w = rs → rtOf w = rt → rdOf w = rd → decodeCop0Rs w = i) : decode (mkR 0x10#6 rs rt rd sh fn) = i :=
  (decode_of_cop0Rs (opOf_mkR ..) ((coOf_mkR ..).trans hco)).trans (h _ (rsOf_mkR ..) (rtOf_mkR ..) (rdOf_mkR ..))

/-! ### The words of the maps -/

/-- Settles O5: the map is selected by `op`, and the operands are the fields of the format. -/
theorem primaryWordsDecode : Obligations.PrimaryWordsDecode := by
  unfold Obligations.PrimaryWordsDecode
  intro rs rt imm t
  refine ⟨decode_mkJ ?_, decode_mkJ ?_, decode_mkI ?_, decode_mkI ?_, decode_mkI ?_, decode_mkI ?_, decode_mkI ?_,
    decode_mkI ?_, decode_mkI ?_, decode_mkI ?_, decode_mkI ?_, decode_mkI ?_, decode_mkI ?_, decode_mkI ?_, decode_mkJ ?_,
    decode_mkI ?_, decode_mkI ?_, decode_mkI ?_, decode_mkI ?_, decode_mkI ?_, decode_mkI ?_, decode_mkI ?_, decode_mkI ?_,
    decode_mkI ?_, decode_mkI ?_, decode_mkI ?_, decode_mkI ?_, decode_mkI ?_, decode_mkI ?_⟩
  all_goals
    intro w hop
    intros
    subst_vars
    rw [decode, hop]
    rfl

/-- Settles O6: the map is selected by `funct`, and the operands are the fields of the format. -/
theorem specialWordsDecode : Obligations.SpecialWordsDecode := by
  unfold Obligations.SpecialWordsDecode
  intro rs rt rd sh code
  refine ⟨decode_mkR_special ?_, decode_mkR_special ?_, decode_mkR_special ?_, decode_mkR_special ?_, decode_mkR_special ?_,
    decode_mkR_special ?_, decode_mkR_special ?_, decode_mkR_special ?_, decode_mkCode ?_, decode_mkCode ?_,
    decode_mkR_special ?_, decode_mkR_special ?_, decode_mkR_special ?_, decode_mkR_special ?_, decode_mkR_special ?_,
    decode_mkR_special ?_, decode_mkR_special ?_, decode_mkR_special ?_, decode_mkR_special ?_, decode_mkR_special ?_,
    decode_mkR_special ?_, decode_mkR_special ?_, decode_mkR_special ?_, decode_mkR_special ?_, decode_mkR_special ?_,
    decode_mkR_special ?_, decode_mkR_special ?_, decode_mkR_special ?_⟩
  all_goals
    intro w hfn
    intros
    subst_vars
    rw [decodeSpecial, hfn]
    rfl

/-! ### The row and the reserved cells of each map -/

/-- A field has one of its finitely many values. -/
theorem exists_field_value {n : Nat} (f : BitVec n) : ∃ k, k < 2 ^ n ∧ f = BitVec.ofNat n k :=
  ⟨f.toNat, f.isLt, by simp⟩

/-- The RI cells of the primary map (30_encoding R190). -/
def primaryReserved : List Nat :=
  [0x11, 0x13, 0x14, 0x15, 0x16, 0x17, 0x18, 0x19, 0x1A, 0x1B, 0x1C, 0x1D, 0x1E, 0x1F, 0x27, 0x2C, 0x2D, 0x2F, 0x30, 0x31, 0x33,
    0x34, 0x35, 0x36, 0x37, 0x38, 0x39, 0x3B, 0x3C, 0x3D, 0x3E, 0x3F]

/-- The RI cells of the SPECIAL map (30_encoding R191). -/
def specialReserved : List Nat :=
  [0x01, 0x05, 0x0A, 0x0B, 0x0E, 0x0F, 0x14, 0x15, 0x16, 0x17, 0x1C, 0x1D, 0x1E, 0x1F, 0x28, 0x29, 0x2C, 0x2D, 0x2E, 0x2F, 0x30,
    0x31, 0x32, 0x33, 0x34, 0x35, 0x36, 0x37, 0x38, 0x39, 0x3A, 0x3B, 0x3C, 0x3D, 0x3E, 0x3F]

theorem decodeSpecial_row (w : Word) :
    (decodeSpecial w).rowMask = 0xFC00003F#32 ∧ (decodeSpecial w).rowMatch = mkR 0#6 0#5 0#5 0#5 0#5 (functOf w) ∧
      (decodeSpecial w).isReserved = decide ((functOf w).toNat ∈ specialReserved) := by
  obtain ⟨k, hk, hfn⟩ := exists_field_value (functOf w)
  rw [decodeSpecial, hfn]
  interval_cases k <;> exact ⟨rfl, rfl, rfl⟩

theorem decodeRegimm_row (w : Word) :
    (decodeRegimm w).rowMask = 0xFC1F0000#32 ∧ (decodeRegimm w).rowMatch = mkI 1#6 0#5 (rtOf w) 0#16 ∧
      (decodeRegimm w).isReserved = false ∧ (decodeRegimm w).regimm = some (rtOf w, rsOf w, immOf w) := by
  obtain ⟨k, hk, hrt⟩ := exists_field_value (rtOf w)
  rw [decodeRegimm, hrt]
  interval_cases k <;> exact ⟨rfl, rfl, rfl, rfl⟩

theorem decodeCop0Co_row (w : Word) :
    (decodeCop0Co w).rowMask = 0xFE00003F#32 ∧ (decodeCop0Co w).rowMatch = mkR 0x10#6 0x10#5 0#5 0#5 0#5 (functOf w) ∧
      (decodeCop0Co w).isReserved = decide ((functOf w).toNat ≠ 0x10) := by
  obtain ⟨k, hk, hfn⟩ := exists_field_value (functOf w)
  rw [decodeCop0Co, hfn]
  interval_cases k <;> exact ⟨rfl, rfl, rfl⟩

theorem decodeCop0Rs_row {w : Word} (hrs : (rsOf w).toNat < 0x10) :
    (decodeCop0Rs w).rowMask = 0xFFE00000#32 ∧ (decodeCop0Rs w).rowMatch = mkR 0x10#6 (rsOf w) 0#5 0#5 0#5 0#6 ∧
      (decodeCop0Rs w).isReserved = decide ((rsOf w).toNat ≠ 0 ∧ (rsOf w).toNat ≠ 4) := by
  have hval : rsOf w = BitVec.ofNat 5 (rsOf w).toNat := by simp
  generalize (rsOf w).toNat = k at hrs hval
  rw [decodeCop0Rs, hval]
  interval_cases k <;> exact ⟨rfl, rfl, rfl⟩

/-- The other primary opcodes select their row alone. -/
theorem decode_primary_row {w : Word} (h0 : opOf w ≠ 0#6) (h1 : opOf w ≠ 1#6) (h10 : opOf w ≠ 0x10#6) :
    (decode w).rowMask = 0xFC000000#32 ∧ (decode w).rowMatch = mkI (opOf w) 0#5 0#5 0#16 ∧
      (decode w).isReserved = decide ((opOf w).toNat ∈ primaryReserved) := by
  obtain ⟨k, hk, hop⟩ := exists_field_value (opOf w)
  have hrange : (2 ≤ k ∧ k < 0x10) ∨ 0x11 ≤ k := by bv_omega
  rw [decode, hop]
  rcases hrange with ⟨hlo, hhi⟩ | hlo <;> interval_cases k <;> exact ⟨rfl, rfl, rfl⟩

/-! ### Words by their map -/

theorem opOf_toNat (w : Word) : (opOf w).toNat = w.toNat / 2 ^ 26 := by
  have := w.isLt
  simp only [opOf, BitVec.extractLsb'_toNat, Nat.shiftRight_eq_div_pow]
  omega

theorem rsOf_toNat (w : Word) : (rsOf w).toNat = w.toNat / 2 ^ 21 % 2 ^ 5 := by
  simp only [rsOf, BitVec.extractLsb'_toNat, Nat.shiftRight_eq_div_pow]

theorem functOf_toNat (w : Word) : (functOf w).toNat = w.toNat % 2 ^ 6 := by
  simp only [functOf, BitVec.extractLsb'_toNat, Nat.shiftRight_zero]

/-- Bit 25 is the top bit of the `rs` field. -/
theorem rsOf_lt_of_not_coOf {w : Word} (hco : coOf w = false) : (rsOf w).toNat < 0x10 := by
  have hbit := mt (Machine.getLsbD_iff_toNat w 25).2 (Bool.eq_false_iff.1 hco)
  rw [rsOf_toNat]
  omega

theorem rsOf_and_of_coOf {w : Word} (hco : coOf w = true) : rsOf w &&& 0x10#5 = 0x10#5 := by
  have htop : (rsOf w).getLsbD 4 = true := by simpa [rsOf, coOf] using hco
  generalize rsOf w = rs at htop ⊢
  revert rs
  decide

/-- Settles O27: the REGIMM map gives every value of `rt` back as its condition; the COP0 map is selected by `rs`, or by `funct`
where bit 25 is set. -/
theorem regimmAndCop0WordsDecode : Obligations.RegimmAndCop0WordsDecode := by
  unfold Obligations.RegimmAndCop0WordsDecode
  intro rs rt rd c sh fn imm
  refine ⟨?_, decode_mkR_cop0Rs rfl fun w hrs hrt hrd => by rw [decodeCop0Rs, hrs, hrt, hrd]; rfl,
    decode_mkR_cop0Rs rfl fun w hrs hrt hrd => by rw [decodeCop0Rs, hrs, hrt, hrd]; rfl, fun hrs => ?_⟩
  · obtain ⟨-, -, -, hregimm⟩ := decodeRegimm_row (mkI 1#6 rs c imm)
    rw [decode_of_regimm (opOf_mkI ..), hregimm, rtOf_mkI, rsOf_mkI, immOf_mkI]
  · rw [decode_of_cop0Co (opOf_mkR ..) ((coOf_mkR ..).trans hrs), decodeCop0Co, functOf_mkR]
    rfl

/-- Settles O7: each map has its reserved cells, and `op` selects the map. -/
theorem reservedWordsAreExactlyTheMaps : Obligations.ReservedWordsAreExactlyTheMaps := by
  unfold Obligations.ReservedWordsAreExactlyTheMaps
  intro w
  change _ ↔ _ ∈ primaryReserved ∨ _ ∧ _ ∈ specialReserved ∨ _ ∧ (coOf w = false ∧ _ ∨ coOf w = true ∧ _)
  rw [← opOf_toNat, ← functOf_toNat, ← rsOf_toNat]
  by_cases h0 : opOf w = 0#6
  · obtain ⟨-, -, hres⟩ := decodeSpecial_row w
    simp [decode_of_special h0, hres, h0, primaryReserved]
  by_cases h1 : opOf w = 1#6
  · obtain ⟨-, -, hres, -⟩ := decodeRegimm_row w
    simp [decode_of_regimm h1, hres, h1, primaryReserved]
  by_cases h10 : opOf w = 0x10#6
  · cases hco : coOf w with
    | false =>
      obtain ⟨-, -, hres⟩ := decodeCop0Rs_row (rsOf_lt_of_not_coOf hco)
      simp [decode_of_cop0Rs h10 hco, hres, h10, primaryReserved]
    | true =>
      obtain ⟨-, -, hres⟩ := decodeCop0Co_row w
      simp [decode_of_cop0Co h10 hco, hres, h10, primaryReserved]
  · obtain ⟨-, -, hres⟩ := decode_primary_row h0 h1 h10
    have hop0 : (opOf w).toNat ≠ 0 := fun h => h0 (BitVec.eq_of_toNat_eq h)
    have hop10 : (opOf w).toNat ≠ 0x10 := fun h => h10 (BitVec.eq_of_toNat_eq h)
    simp [hres, hop0, hop10]

/-! ### The round trip -/

/-- Each row by the law of its map, at zero for the fields that a format does not have; the last case are the reserved encodings,
whose words are closed terms. -/
theorem decode_encode (i : Instr) : decode (encode i) = i := by
  have hI := fun rs rt imm => primaryWordsDecode rs rt imm 0#26
  have hJ := fun t => primaryWordsDecode 0#5 0#5 0#16 t
  have hR := fun rs rt rd sh => specialWordsDecode rs rt rd sh 0#20
  have hCode := fun code => specialWordsDecode 0#5 0#5 0#5 0#5 code
  have hCop0 := fun rt rd => regimmAndCop0WordsDecode 0x10#5 rt rd 0#5 0#5 0#6 0#16
  cases i with
  | sll | srl | sra | sllv | srlv | srav | jr | jalr | mfhi | mthi | mflo | mtlo | mult | multu | div | divu | add | addu
  | sub | subu | and | or | xor | nor | slt | sltu => simp only [encode, hR]
  | syscall | brk => simp only [encode, hCode]
  | bltz | bgez | bltzal | bgezal | bltzRt02 | bgezRt03 | bltzRt04 | bgezRt05 | bltzRt06 | bgezRt07 | bltzRt08 | bgezRt09
  | bltzRt0A | bgezRt0B | bltzRt0C | bgezRt0D | bltzRt0E | bgezRt0F | bltzRt12 | bgezRt13 | bltzRt14 | bgezRt15 | bltzRt16
  | bgezRt17 | bltzRt18 | bgezRt19 | bltzRt1A | bgezRt1B | bltzRt1C | bgezRt1D | bltzRt1E | bgezRt1F =>
    refine decode_mkI_regimm ?_
    intro w hrt
    intros
    subst_vars
    rw [decodeRegimm, hrt]
    rfl
  | beq | bne | blez | bgtz | addi | addiu | slti | sltiu | andi | ori | xori | lui | lb | lh | lwl | lw | lbu | lhu | lwr
  | sb | sh | swl | sw | swr | lwc2 | swc2 => simp only [encode, hI]
  | j | jal | cop2 => simp only [encode, hJ]
  | mfc0 | mtc0 => simp only [encode, hCop0]
  | _ => rfl

/-- The byte decoder reads the word of the first four bytes. -/
theorem decodeBytes_bytesOfWord (w : Word) (rest : List Byte) :
    decodeBytes (bytesOfWord w ++ rest) = .ok (decode w, rest) := by
  change Except.ok (decode (wordOfBytes (byteOfWord w 0) (byteOfWord w 1) (byteOfWord w 2) (byteOfWord w 3)), rest) = _
  rw [Machine.wordOfBytes_byteOfWord]

/-- Settles O8: the round trip of the word, and the byte decoder reads that word. -/
theorem decodeInvertsEncode : Obligations.DecodeInvertsEncode := by
  unfold Obligations.DecodeInvertsEncode
  exact fun i _ => ⟨decode_encode i, fun rest => by rw [decodeBytes_bytesOfWord, decode_encode]⟩

/-! ### The selecting bits of a word -/

/-- The number of two fields set side by side. -/
theorem append_toNat {m n : Nat} (x : BitVec m) (y : BitVec n) : (x ++ y).toNat = x.toNat * 2 ^ n + y.toNat := by
  rw [BitVec.toNat_append, ← Nat.shiftLeft_add_eq_or_of_lt y.isLt, Nat.shiftLeft_eq]

/-- Every word is the R format of its fields. -/
theorem mkR_fields (w : Word) : mkR (opOf w) (rsOf w) (rtOf w) (rdOf w) (shamtOf w) (functOf w) = w := by
  have hw := w.isLt
  apply BitVec.eq_of_toNat_eq
  simp only [mkR, append_toNat, opOf, rsOf, rtOf, rdOf, shamtOf, functOf, BitVec.extractLsb'_toNat, Nat.shiftRight_eq_div_pow]
  omega

/-- Every word is the I format of its fields. -/
theorem mkI_fields (w : Word) : mkI (opOf w) (rsOf w) (rtOf w) (immOf w) = w := by
  have hw := w.isLt
  apply BitVec.eq_of_toNat_eq
  simp only [mkI, append_toNat, opOf, rsOf, rtOf, immOf, BitVec.extractLsb'_toNat, Nat.shiftRight_eq_div_pow]
  omega

/-- `op`, the top bit of `rs`, and `funct` select. -/
theorem mkR_select_co (op : BitVec 6) (rs rt rd : Reg) (sh : BitVec 5) (fn : BitVec 6) :
    mkR op rs rt rd sh fn &&& 0xFE00003F#32 = mkR op (rs &&& 0x10#5) 0#5 0#5 0#5 fn := by
  have e : (op ++ rs ++ rt ++ rd ++ sh ++ fn) &&& (BitVec.allOnes 6 ++ 0x10#5 ++ 0#5 ++ 0#5 ++ 0#5 ++ BitVec.allOnes 6) =
      op ++ (rs &&& 0x10#5) ++ 0#5 ++ 0#5 ++ 0#5 ++ fn := by
    simp only [BitVec.and_append, BitVec.and_zero, BitVec.and_allOnes]
  exact e

/-- The bits that select the row of a word: `op`, and with it what its map selects by. -/
def selectMask (w : Word) : Word :=
  if opOf w = 0#6 then 0xFC00003F#32
  else if opOf w = 1#6 then 0xFC1F0000#32
  else if opOf w = 0x10#6 then (if coOf w then 0xFE00003F#32 else 0xFFE00000#32)
  else 0xFC000000#32

/-- The row of the instruction a word decodes to. -/
theorem decode_row (w : Word) : (decode w).rowMask = selectMask w ∧ (decode w).rowMatch = w &&& selectMask w := by
  have hR := mkR_fields w
  have hI := mkI_fields w
  by_cases h0 : opOf w = 0#6
  · have hsel : selectMask w = 0xFC00003F#32 := if_pos h0
    obtain ⟨hmask, hmatch, -⟩ := decodeSpecial_row w
    rw [decode_of_special h0, hsel]
    exact ⟨hmask, by rw [hmatch, ← h0, ← mkR_select, hR]⟩
  by_cases h1 : opOf w = 1#6
  · have hsel : selectMask w = 0xFC1F0000#32 := (if_neg h0).trans (if_pos h1)
    obtain ⟨hmask, hmatch, -⟩ := decodeRegimm_row w
    rw [decode_of_regimm h1, hsel]
    exact ⟨hmask, by rw [hmatch, ← h1, ← mkI_select_rt, hI]⟩
  by_cases h10 : opOf w = 0x10#6
  · have hsel : selectMask w = if coOf w then 0xFE00003F#32 else 0xFFE00000#32 :=
      (if_neg h0).trans ((if_neg h1).trans (if_pos h10))
    cases hco : coOf w with
    | false =>
      obtain ⟨hmask, hmatch, -⟩ := decodeCop0Rs_row (rsOf_lt_of_not_coOf hco)
      rw [decode_of_cop0Rs h10 hco, hsel, hco]
      exact ⟨hmask, by rw [hmatch, ← h10, ← mkR_select_rs, hR]; rfl⟩
    | true =>
      obtain ⟨hmask, hmatch, -⟩ := decodeCop0Co_row w
      rw [decode_of_cop0Co h10 hco, hsel, hco]
      exact ⟨hmask, by rw [hmatch, ← h10, ← rsOf_and_of_coOf hco, ← mkR_select_co, hR]; rfl⟩
  · have hsel : selectMask w = 0xFC000000#32 := (if_neg h0).trans ((if_neg h1).trans (if_neg h10))
    obtain ⟨hmask, hmatch, -⟩ := decode_primary_row h0 h1 h10
    rw [hsel]
    exact ⟨hmask, by rw [hmatch, ← mkI_select, hI]⟩

/-- Every row's selecting bits hold `op`. -/
theorem opOf_and_selectMask (v w : Word) : opOf (w &&& selectMask v) = opOf w := by
  have hones : opOf (selectMask v) = BitVec.allOnes 6 := by
    unfold selectMask
    split_ifs <;> rfl
  rw [opOf, BitVec.extractLsb'_and]
  exact (congrArg (opOf w &&& ·) hones).trans BitVec.and_allOnes

/-- The selecting bits of a COP0 row hold bit 25. -/
theorem coOf_and_selectMask {v : Word} (hop : opOf v = 0x10#6) (w : Word) : coOf (w &&& selectMask v) = coOf w := by
  have hbit : coOf (selectMask v) = true := by
    rw [selectMask, hop]
    cases coOf v <;> rfl
  rw [coOf, BitVec.getLsbD_and]
  exact (congrArg (coOf w && ·) hbit).trans (Bool.and_true _)

/-- A word with the selecting bits of another one is selected by the same bits. -/
theorem selectMask_congr {v w : Word} (h : w &&& selectMask v = v &&& selectMask v) : selectMask w = selectMask v := by
  have hop : opOf w = opOf v := by rw [← opOf_and_selectMask v w, h, opOf_and_selectMask]
  by_cases h10 : opOf v = 0x10#6
  · have hco : coOf w = coOf v := by rw [← coOf_and_selectMask h10 w, h, coOf_and_selectMask h10]
    rw [selectMask, selectMask, hop, hco]
  · simp only [selectMask, hop, if_neg h10]

/-- Settles O9: the row of a word's instruction is its own selecting bits, and the word of any instruction with that row has the
same selecting bits. -/
theorem everyWordHasExactlyOneRow : Obligations.EveryWordHasExactlyOneRow := by
  unfold Obligations.EveryWordHasExactlyOneRow
  intro w
  obtain ⟨hmask, hmatch⟩ := decode_row w
  refine ⟨by rw [hmask, hmatch], fun i hi => ?_⟩
  obtain ⟨himask, himatch⟩ := decode_row (encode i)
  rw [decode_encode] at himask himatch
  rw [himask, himatch] at hi
  rw [himask, himatch, hmask, hmatch, selectMask_congr hi]
  exact ⟨rfl, hi.symm⟩

/-- Settles O4: closed facts, by evaluating the decoder. -/
theorem sampleWordsDecode : Obligations.SampleWordsDecode := by
  unfold Obligations.SampleWordsDecode
  decide

end Sys2Proof
end

section
/-! SUPPORT. The operand forms by number (30_encoding R187, R188; 42_branch R311; 43_loadstore R350, R357), the shifts (40_alu R248 to
R253), the REGIMM branches (42_branch R321 to R324), and the instructions that trap or have no effect (44_system R390 to R398). -/

namespace Sys2Proof.Machine

/-! ### The operand forms -/

/-- The sign-extended immediate, modulo 2^32. -/
theorem sext16_toNat (imm : Half) : ((sext16 imm).toNat : Int) = imm.toInt % 2 ^ 32 := by
  have hsigned : (sext16 imm).toInt = imm.toInt := BitVec.toInt_signExtend_of_le (by decide)
  have hnumber := BitVec.toInt_eq_toNat_cond (sext16 imm)
  split at hnumber <;> omega

theorem State.ea_toNat (s : State) (rs : Reg) (imm : Half) :
    ((s.ea rs imm).toNat : Int) = ((s.readReg rs).toNat + imm.toInt) % 2 ^ 32 := by
  have hsext := sext16_toNat imm
  rw [State.ea, BitVec.toNat_add]
  omega

theorem State.branchTarget_toNat (s : State) (imm : Half) :
    ((s.branchTarget imm).toNat : Int) = ((s.curpc.toNat : Int) + 4 + 4 * imm.toInt) % 2 ^ 32 := by
  have hsext := sext16_toNat imm
  rw [State.branchTarget, BitVec.toNat_add, BitVec.toNat_add, BitVec.toNat_shiftLeft, Nat.shiftLeft_eq]
  simp only [BitVec.toNat_ofNat]
  omega

/-- A jump target is made of three fields: the region, the index and two zero bits. -/
theorem State.jumpTarget_fields (s : State) (t : BitVec 26) :
    s.jumpTarget t = (s.curpc + 4#32).extractLsb' 28 4 ++ t ++ 0#2 := by
  rw [State.jumpTarget]
  generalize s.curpc + 4#32 = a
  apply BitVec.eq_of_getLsbD_eq
  intro i hi
  simp only [BitVec.getLsbD_or, BitVec.getLsbD_and, BitVec.getLsbD_shiftLeft, BitVec.getLsbD_setWidth, BitVec.getLsbD_append,
    BitVec.getLsbD_extractLsb']
  interval_cases i <;> simp

theorem State.jumpTarget_toNat (s : State) (t : BitVec 26) :
    (s.jumpTarget t).toNat = (s.curpc.toNat + 4) % 2 ^ 32 / 2 ^ 28 * 2 ^ 28 + 4 * t.toNat := by
  rw [s.jumpTarget_fields, append_toNat, append_toNat, BitVec.extractLsb'_toNat, BitVec.toNat_add, Nat.shiftRight_eq_div_pow]
  simp only [BitVec.toNat_ofNat]
  omega

theorem State.pend_of_pending {s : State} {p : RegWrite} (hp : s.pending = some p) : s.pend p.reg = p.val := by
  rw [State.pend, hp]
  exact if_pos rfl

theorem State.pend_of_not_pending {s : State} {r : Reg} (h : ∀ p, s.pending = some p → p.reg ≠ r) :
    s.pend r = s.readReg r := by
  unfold State.pend
  split
  next p hp => exact if_neg (h p hp)
  next => rfl

/-- Settles O16: each operand form by its number. -/
theorem operandForms : Obligations.OperandForms := by
  unfold Obligations.OperandForms
  exact fun s rs imm t => ⟨s.ea_toNat rs imm, s.branchTarget_toNat imm, s.jumpTarget_toNat t, rfl,
    fun p hp hr => hr ▸ State.pend_of_pending hp, State.pend_of_not_pending⟩

/-! ### The shifts -/

theorem shiftLeft_toNat (x : Word) (n : Nat) : (x <<< n).toNat = x.toNat * 2 ^ n % 2 ^ 32 := by
  rw [BitVec.toNat_shiftLeft, Nat.shiftLeft_eq]

theorem ushiftRight_toNat (x : Word) (n : Nat) : (x >>> n).toNat = x.toNat / 2 ^ n := by
  rw [BitVec.toNat_ushiftRight, Nat.shiftRight_eq_div_pow]

theorem sshiftRight_toInt (x : Word) (n : Nat) : (x.sshiftRight n).toInt = x.toInt / 2 ^ n := by
  rw [BitVec.toInt_sshiftRight, Int.shiftRight_eq_div_pow, Nat.cast_pow, Nat.cast_ofNat]

/-- An instruction that writes a register answers a next state, in which nothing else changes but for the commit. -/
theorem writeBack_ends {P : Word → Prop} {v : Word} (h : P v) (d : Reg) (s : State) :
    ∃ t x, writeBack d v s = .next t ∧ EndsWith s t (some ⟨d, x⟩) none ∧ P x :=
  ⟨_, _, rfl, s.commit_endsWith _ _, h⟩

/-- Settles O21: each shift writes its result back, by its number. -/
theorem shiftsByNumber : Obligations.ShiftsByNumber := by
  unfold Obligations.ShiftsByNumber
  exact fun s d b a sh =>
    ⟨writeBack_ends (shiftLeft_toNat _ _) d s, writeBack_ends (ushiftRight_toNat _ _) d s,
      writeBack_ends (sshiftRight_toInt _ _) d s, writeBack_ends (shiftLeft_toNat _ _) d s,
      writeBack_ends (ushiftRight_toNat _ _) d s, writeBack_ends (sshiftRight_toInt _ _) d s⟩

/-! ### The REGIMM branches -/

/-- The write of the link value into a link register, where there is one (42_branch R312). -/
def State.linkWrite (s : State) (link : Option Reg) : Option RegWrite := link.map fun r => ⟨r, s.curpc + 8#32⟩

/-- An instruction that ends with the delayed transfer and the link is a branch. -/
theorem branchesTo_of_transfer {i : Instr} {s : State} {taken : Bool} {cond : Prop} {imm : Half} {link : Option Reg}
    (htaken : taken = true ↔ cond)
    (hexec : exec i s = .next ((s.transfer taken (s.branchTarget imm)).commit (s.linkWrite link) none)) :
    BranchesTo i s cond imm link := by
  refine ⟨_, _, hexec, s.branchTarget_toNat imm, fun hc => ?_, fun hc => ?_⟩
  · rw [htaken.2 hc]
    exact State.commit_endsWith _ _ _
  · rw [Bool.eq_false_iff.2 (mt htaken.1 hc)]
    exact State.commit_endsWith _ _ _

/-- The condition of a REGIMM branch, by its code and its register's value (30_encoding R192). -/
def regimmTaken (c : BitVec 5) (x : Word) : Bool := if c.getLsbD 0 then !negative x else negative x

theorem negative_iff (x : Word) : negative x = true ↔ x.toInt < 0 := by
  rw [negative, show x.getLsbD 31 = x.msb from (BitVec.msb_eq_getLsbD_last x).symm, BitVec.msb_eq_toInt, decide_eq_true_iff]

theorem regimmTaken_iff (c : BitVec 5) (x : Word) :
    regimmTaken c x = true ↔ if c.getLsbD 0 = true then 0 ≤ x.toInt else x.toInt < 0 := by
  unfold regimmTaken
  split
  · rw [Bool.not_eq_true', Bool.eq_false_iff, Ne, negative_iff, not_lt]
  · exact negative_iff x

/-- Every REGIMM instruction ends with the delayed transfer of its condition code, and the link of bits 4:1 of the code. -/
theorem exec_regimm {i : Instr} {c : BitVec 5} {rs : Reg} {imm : Half} (h : i.regimm = some (c, rs, imm)) (s : State) :
    exec i s = .next ((s.transfer (regimmTaken c (s.readReg rs)) (s.branchTarget imm)).commit
      (s.linkWrite (if c.toNat / 2 = 8 then some 31#5 else none)) none) := by
  cases i with
  | bltz | bgez | bltzal | bgezal | bltzRt02 | bgezRt03 | bltzRt04 | bgezRt05 | bltzRt06 | bgezRt07 | bltzRt08 | bgezRt09
  | bltzRt0A | bgezRt0B | bltzRt0C | bgezRt0D | bltzRt0E | bgezRt0F | bltzRt12 | bgezRt13 | bltzRt14 | bgezRt15 | bltzRt16
  | bgezRt17 | bltzRt18 | bgezRt19 | bltzRt1A | bgezRt1B | bltzRt1C | bgezRt1D | bltzRt1E | bgezRt1F =>
    cases h
    rfl
  | _ => cases h

/-- Settles O26: by the condition and the link of the code. -/
theorem regimmBranches : Obligations.RegimmBranches := by
  unfold Obligations.RegimmBranches
  exact fun i s c rs imm h => branchesTo_of_transfer (regimmTaken_iff c _) (exec_regimm h s)

/-! ### Traps, and the COP2 group -/

theorem exec_of_isReserved {i : Instr} (h : i.isReserved = true) : exec i = raise .ri := by
  cases i with
  | sll | srl | sra | sllv | srlv | srav | jr | jalr | syscall | brk | mfhi | mthi | mflo | mtlo | mult | multu | div | divu
  | add | addu | sub | subu | and | or | xor | nor | slt | sltu | bltz | bgez | bltzal | bgezal | bltzRt02 | bgezRt03
  | bltzRt04 | bgezRt05 | bltzRt06 | bgezRt07 | bltzRt08 | bgezRt09 | bltzRt0A | bgezRt0B | bltzRt0C | bgezRt0D | bltzRt0E
  | bgezRt0F | bltzRt12 | bgezRt13 | bltzRt14 | bgezRt15 | bltzRt16 | bgezRt17 | bltzRt18 | bgezRt19 | bltzRt1A | bgezRt1B
  | bltzRt1C | bgezRt1D | bltzRt1E | bgezRt1F | j | jal | beq | bne | blez | bgtz | addi | addiu | slti | sltiu | andi | ori
  | xori | lui | lb | lh | lwl | lw | lbu | lhu | lwr | sb | sh | swl | sw | swr | mfc0 | mtc0 | rfe | cop2 | lwc2 | swc2 =>
    cases h
  | _ => rfl

/-- Settles O42: each of them raises its exception, whatever the state. -/
theorem trapsAlwaysEnter : Obligations.TrapsAlwaysEnter := by
  unfold Obligations.TrapsAlwaysEnter
  refine fun s => ⟨fun _ => raiseAt_raises .sys 0#32 s, fun _ => raiseAt_raises .bp 0#32 s, fun i hi => ?_⟩
  rw [exec_of_isReserved hi]
  exact raiseAt_raises .ri 0#32 s

theorem cop2Word_of_noOp {s : State} (h : s.cfg.cop2Mode = .noOp) : cop2Word s = finish s := by
  rw [cop2Word, h]

theorem cop2Word_of_refuse {s : State} (h : s.cfg.cop2Mode = .refuse) : cop2Word s = .refused .cop2Word := by
  rw [cop2Word, h]

/-- Settles O44: the three have one meaning, which COP2_MODE decides. -/
theorem cop2GroupByMode : Obligations.Cop2GroupByMode := by
  unfold Obligations.Cop2GroupByMode
  intro s i op rt rs imm hi
  have hexec : exec i s = cop2Word s := by rcases hi with rfl | rfl | rfl <;> rfl
  rw [hexec]
  exact ⟨fun h => ⟨_, cop2Word_of_noOp h, s.commit_endsWith none none⟩, cop2Word_of_refuse⟩

end Sys2Proof.Machine
end

section
/-! SUPPORT. The arithmetic, comparison and logic instructions by number and bit by bit (40_alu R230 to R247, R254). -/

namespace Sys2Proof.Machine

theorem sext16_toInt (imm : Half) : (sext16 imm).toInt = imm.toInt := BitVec.toInt_signExtend_of_le (by decide)

/-! ### The trapping arithmetic -/

theorem getLsbD_31_eq_msb (x : Word) : x.getLsbD 31 = x.msb := (BitVec.msb_eq_getLsbD_last x).symm

/-- The sum overflows exactly when both operands have one sign and it has the other (40_alu R230). -/
theorem addOverflow_eq_saddOverflow (a b : Word) : addOverflow a b = a.saddOverflow b := by
  rw [addOverflow, getLsbD_31_eq_msb, BitVec.msb_and, BitVec.msb_xor, BitVec.msb_xor, BitVec.saddOverflow_eq]
  cases a.msb <;> cases b.msb <;> simp

/-- The difference overflows exactly when the operands' signs differ and its sign is not the first's (40_alu R232). -/
theorem subOverflow_eq_ssubOverflow (a b : Word) : subOverflow a b = a.ssubOverflow b := by
  rw [subOverflow, getLsbD_31_eq_msb, BitVec.msb_and, BitVec.msb_xor, BitVec.msb_xor, BitVec.ssubOverflow_eq]
  cases a.msb <;> cases b.msb <;> simp

theorem addOverflow_iff (a b : Word) :
    addOverflow a b = true ↔ ¬ (-(2 ^ 31) ≤ a.toInt + b.toInt ∧ a.toInt + b.toInt < 2 ^ 31) := by
  rw [addOverflow_eq_saddOverflow, BitVec.saddOverflow, Bool.or_eq_true, decide_eq_true_iff, decide_eq_true_iff]
  omega

theorem subOverflow_iff (a b : Word) :
    subOverflow a b = true ↔ ¬ (-(2 ^ 31) ≤ a.toInt - b.toInt ∧ a.toInt - b.toInt < 2 ^ 31) := by
  rw [subOverflow_eq_ssubOverflow, BitVec.ssubOverflow, Bool.or_eq_true, decide_eq_true_iff, decide_eq_true_iff]
  omega

theorem add_toInt_of_not_addOverflow {a b : Word} (h : ¬ addOverflow a b = true) : (a + b).toInt = a.toInt + b.toInt :=
  BitVec.toInt_add_of_not_saddOverflow (addOverflow_eq_saddOverflow a b ▸ h)

theorem sub_toInt_of_not_subOverflow {a b : Word} (h : ¬ subOverflow a b = true) : (a - b).toInt = a.toInt - b.toInt :=
  BitVec.toInt_sub_of_not_ssubOverflow (subOverflow_eq_ssubOverflow a b ▸ h)

/-- An instruction that traps on `trap` and otherwise writes `v`: when `trap` says that the exact result `z` does not fit, and
`v` is `z` where it does, the instruction writes `z` or raises Overflow (40_alu R230, R232; 60_exceptions R431). -/
theorem trapOrWriteBack_ends {trap : Bool} {z : Int} {v : Word} (htrap : trap = true ↔ ¬ (-(2 ^ 31) ≤ z ∧ z < 2 ^ 31))
    (hv : ¬ trap = true → v.toInt = z) (d : Reg) (s : State) :
    (-(2 ^ 31) ≤ z ∧ z < 2 ^ 31 → ∃ t x, (if trap = true then raise .ov s else writeBack d v s) = .next t ∧
      EndsWith s t (some ⟨d, x⟩) none ∧ x.toInt = z) ∧
    (¬ (-(2 ^ 31) ≤ z ∧ z < 2 ^ 31) → ∃ t, (if trap = true then raise .ov s else writeBack d v s) = .next t ∧
      Raises s t .ov 0#32) := by
  refine ⟨fun hfits => ?_, fun hover => ?_⟩
  · have hno : ¬ trap = true := fun ht => htrap.1 ht hfits
    rw [if_neg hno]
    exact writeBack_ends (hv hno) d s
  · rw [if_pos (htrap.2 hover)]
    exact raiseAt_raises .ov 0#32 s

/-- Settles O17: the overflow tests say that the exact result does not fit, and without overflow the word is that result. -/
theorem trappingArithmetic : Obligations.TrappingArithmetic := by
  unfold Obligations.TrappingArithmetic
  intro s d a b imm
  have add (y : Word) :=
    trapOrWriteBack_ends (addOverflow_iff (s.readReg a) y) add_toInt_of_not_addOverflow d s
  obtain ⟨addWrites, addRaises⟩ := add (s.readReg b)
  obtain ⟨subWrites, subRaises⟩ :=
    trapOrWriteBack_ends (subOverflow_iff (s.readReg a) (s.readReg b)) sub_toInt_of_not_subOverflow d s
  obtain ⟨addiWrites, addiRaises⟩ := sext16_toInt imm ▸ add (sext16 imm)
  exact ⟨addWrites, addRaises, subWrites, subRaises, addiWrites, addiRaises⟩

/-! ### The wrapping arithmetic -/

theorem sub_toNat (x y : Word) : ((x - y).toNat : Int) = (x.toNat - y.toNat : Int) % 2 ^ 32 := by
  rw [BitVec.toNat_sub]
  omega

/-- Settles O18: each writes its result back, by its number; ADDIU's is the form of an effective address. -/
theorem wrappingArithmetic : Obligations.WrappingArithmetic := by
  unfold Obligations.WrappingArithmetic
  exact fun s d a b imm =>
    ⟨writeBack_ends (BitVec.toNat_add _ _) d s, writeBack_ends (sub_toNat _ _) d s, writeBack_ends (s.ea_toNat a imm) d s⟩

/-! ### The comparisons -/

theorem boolWord_decide_toNat (p : Prop) [Decidable p] : (boolWord (decide p)).toNat = if p then 1 else 0 := by
  by_cases h : p <;> simp [boolWord, h]

theorem signedLt_sext16_toNat (x : Word) (imm : Half) :
    (boolWord (signedLt x (sext16 imm))).toNat = if x.toInt < imm.toInt then 1 else 0 := by
  rw [← sext16_toInt]
  exact boolWord_decide_toNat _

theorem unsignedLt_sext16_toNat (x : Word) (imm : Half) :
    (boolWord (unsignedLt x (sext16 imm))).toNat = if (x.toNat : Int) < imm.toInt % 2 ^ 32 then 1 else 0 := by
  rw [← sext16_toNat]
  simp only [Nat.cast_lt]
  exact boolWord_decide_toNat _

/-- Settles O19: each writes the word of its condition back, the immediate being compared by its sign-extended number. -/
theorem comparisons : Obligations.Comparisons := by
  unfold Obligations.Comparisons
  exact fun s d a b imm =>
    ⟨writeBack_ends (boolWord_decide_toNat _) d s, writeBack_ends (boolWord_decide_toNat _) d s,
      writeBack_ends (signedLt_sext16_toNat _ imm) d s, writeBack_ends (unsignedLt_sext16_toNat _ imm) d s⟩

/-! ### The logic instructions -/

theorem zext16_getLsbD (imm : Half) {k : Nat} (hk : k < 32) :
    (zext16 imm).getLsbD k = (decide (k < 16) && imm.getLsbD k) := by
  rw [zext16, BitVec.getLsbD_setWidth, decide_eq_true hk, Bool.true_and]
  by_cases hlow : k < 16
  · rw [decide_eq_true hlow, Bool.true_and]
  · rw [BitVec.getLsbD_of_ge imm k (not_lt.1 hlow), Bool.and_false]

theorem nor_getLsbD (x y : Word) {k : Nat} (hk : k < 32) :
    (~~~(x ||| y)).getLsbD k = !(x.getLsbD k || y.getLsbD k) := by
  rw [BitVec.getLsbD_not, BitVec.getLsbD_or, decide_eq_true hk, Bool.true_and]

theorem upperImm_toNat (imm : Half) : (upperImm imm).toNat = imm.toNat * 65536 := by
  rw [upperImm, append_toNat, BitVec.toNat_ofNat]
  omega

/-- Settles O20: each writes its result back, and the bits of the result are the operation of the bits. -/
theorem logicBitByBit : Obligations.LogicBitByBit := by
  unfold Obligations.LogicBitByBit
  intro s d a b imm
  refine ⟨writeBack_ends (fun k _ => BitVec.getLsbD_and) d s, writeBack_ends (fun k _ => BitVec.getLsbD_or) d s,
    writeBack_ends (fun k _ => BitVec.getLsbD_xor) d s, writeBack_ends (fun k => nor_getLsbD _ _) d s,
    writeBack_ends (fun k hk => ?andi) d s, writeBack_ends (fun k hk => ?ori) d s, writeBack_ends (fun k hk => ?xori) d s,
    writeBack_ends (upperImm_toNat imm) d s⟩
  case andi => rw [BitVec.getLsbD_and, zext16_getLsbD imm hk, Bool.and_assoc]
  case ori => rw [BitVec.getLsbD_or, zext16_getLsbD imm hk]
  case xori => rw [BitVec.getLsbD_xor, zext16_getLsbD imm hk]

end Sys2Proof.Machine
end

section
/-! SUPPORT. The moves between the register file and HI and LO (41_muldiv R294 to R297). -/

namespace Sys2Proof.Machine

/-- An instruction that writes `v` answers the next state of the commit of that write (10_state R77). -/
theorem writeBack_endsWith (d : Reg) (v : Word) (s : State) :
    ∃ t, writeBack d v s = .next t ∧ EndsWith s t (some ⟨d, v⟩) none :=
  ⟨_, rfl, s.commit_endsWith _ _⟩

/-- An instruction that writes no register answers the next state of the commit of no write (10_state R77). -/
theorem finish_endsWith (s : State) : ∃ t, finish s = .next t ∧ EndsWith s t none none :=
  ⟨_, rfl, s.commit_endsWith _ _⟩

/-- Settles O23: a move from HI or LO is an ordinary write of it, and a move to HI or LO writes no register. -/
theorem hiLoTransfers : Obligations.HiLoTransfers := by
  unfold Obligations.HiLoTransfers
  intro s r
  refine ⟨?mfhi, ?mflo, ?mthi, ?mtlo⟩
  case mfhi => exact writeBack_endsWith r s.hi s
  case mflo => exact writeBack_endsWith r s.lo s
  case mthi => exact finish_endsWith { s with hi := s.readReg r }
  case mtlo => exact finish_endsWith { s with lo := s.readReg r }

end Sys2Proof.Machine
end

section
/-! SUPPORT. The jumps (42_branch R313 to R316), and the branches that compare registers (42_branch R317 to R320). -/

namespace Sys2Proof.Machine

/-! ### The jumps -/

/-- A jump without a link answers the state of a taken transfer, committed without a write (42_branch R310). -/
theorem branch_taken_endsWith (x : Word) (s : State) :
    ∃ t, branch true x s = .next t ∧ EndsWith { s with flagB := true, flagT := true, nextpc := x } t none none :=
  finish_endsWith (s.transfer true x)

/-- A jump with a link answers the state of a taken transfer, committed with the link value (42_branch R310, R312). -/
theorem branchLink_taken_endsWith (d : Reg) (x : Word) (s : State) :
    ∃ t, branchLink d true x s = .next t ∧
      EndsWith { s with flagB := true, flagT := true, nextpc := x } t (some ⟨d, s.curpc + 8#32⟩) none :=
  writeBack_endsWith d s.linkValue (s.transfer true x)

/-- Settles O24: each is a taken transfer, with or without the link, to a target read in the state before it. -/
theorem jumps : Obligations.Jumps := by
  unfold Obligations.Jumps
  intro s tg d r
  refine ⟨?j, ?jal, ?jr, ?jalr⟩
  case j =>
    obtain ⟨t, hnext, hends⟩ := branch_taken_endsWith (s.jumpTarget tg) s
    exact ⟨t, s.jumpTarget tg, hnext, s.jumpTarget_toNat tg, hends⟩
  case jal =>
    obtain ⟨t, hnext, hends⟩ := branchLink_taken_endsWith 31#5 (s.jumpTarget tg) s
    exact ⟨t, s.jumpTarget tg, hnext, s.jumpTarget_toNat tg, hends⟩
  case jr => exact branch_taken_endsWith (s.readReg r) s
  case jalr => exact branchLink_taken_endsWith d (s.readReg r) s

/-! ### The comparing branches -/

theorem lessEqualZero_iff (x : Word) : lessEqualZero x = true ↔ x.toInt ≤ 0 := decide_eq_true_iff

theorem greaterZero_iff (x : Word) : greaterZero x = true ↔ 0 < x.toInt := decide_eq_true_iff

/-- Settles O25: each is the transfer of its condition, without a link. -/
theorem compareBranches : Obligations.CompareBranches := by
  unfold Obligations.CompareBranches
  intro s a b imm
  refine ⟨?beq, ?bne, ?blez, ?bgtz⟩
  case beq => exact branchesTo_of_transfer beq_iff_eq rfl
  case bne => exact branchesTo_of_transfer bne_iff_ne rfl
  case blez => exact branchesTo_of_transfer (lessEqualZero_iff _) rfl
  case bgtz => exact branchesTo_of_transfer (greaterZero_iff _) rfl

end Sys2Proof.Machine
end

section
/-! SUPPORT. The partial-word loads and stores, by the bytes of their merges (43_loadstore R360 to R362, R364, R367, R368). -/

namespace Sys2Proof.Machine

/-- Settles O31: the aligned word's read answers the number, and the merge is byte by byte. -/
theorem partialLoadsMerge : Obligations.PartialLoadsMerge := by
  unfold Obligations.PartialLoadsMerge
  dsimp only
  intro s rt rs imm v hw h
  rw [← alignedWord_eq] at h ⊢
  obtain ⟨x, hread, rfl, -⟩ := memRead_of_answers hw h
  exact ⟨⟨_, _, loadPartial_of_memRead hread lwlMerge rt, State.commit_endsWith _ _ _, lwlMerge_byte _ _ _⟩,
    ⟨_, _, loadPartial_of_memRead hread lwrMerge rt, State.commit_endsWith _ _ _, lwrMerge_byte _ _ _⟩⟩

/-! ### A merged word in memory -/

/-- The bytes of the number that stands in memory are the bytes of memory (20_memory R101). -/
theorem leNat_byte (m : Memory) {j n : Nat} (k : Nat) (hj : j < n) :
    leNat m k n / 256 ^ j % 256 = (Memory.read m (k + j)).toNat := by
  induction n generalizing k j with
  | zero => omega
  | succ n ih =>
    have hbyte := (Memory.read m k).isLt
    cases j with
    | zero => rw [leNat, pow_zero, Nat.div_one, Nat.add_zero k]; omega
    | succ j =>
      have hrest : leNat m k (n + 1) / 256 = leNat m (k + 1) n := by rw [leNat]; omega
      rw [pow_succ', ← Nat.div_div_eq_div_mul, hrest, ih (k + 1) (Nat.lt_of_succ_lt_succ hj), Nat.add_right_comm,
        Nat.add_assoc]

theorem Memory.readVal_word_byte (m : Memory) (c : Nat) {j : Nat} (hj : j < 4) :
    (Memory.readVal m c .word).toNat / 256 ^ j % 256 = (Memory.read m (c + j)).toNat := by
  rw [readVal_toNat]; exact leNat_byte m c hj

theorem Memory.read_writeVal_word {m : Memory} (hm : Memory.wf m) (c : Nat) (x : Word) {j : Nat} (hj : j < 4) :
    (Memory.read (Memory.writeVal m c x .word) (c + j)).toNat = x.toNat / 256 ^ j % 256 := by
  rw [Memory.read_writeVal hm, byteAt, if_pos ⟨by omega, Nat.add_lt_add_left hj c⟩, Option.getD_some,
    Nat.add_sub_cancel_left, byteOfWord_toNat]

/-- A word written back with some of its bytes replaced writes these bytes alone. -/
theorem Memory.read_writeVal_merged {m : Memory} (hm : Memory.wf m) {c : Nat} {x : Word} {replaced : Nat → Prop}
    [DecidablePred replaced] {byte : Nat → Nat} (hx : ∀ j, j < 4 → x.toNat / 256 ^ j % 256 =
      if replaced j then byte j else (Memory.readVal m c .word).toNat / 256 ^ j % 256) :
    (∀ j, j < 4 → replaced j → (Memory.read (Memory.writeVal m c x .word) (c + j)).toNat = byte j) ∧
      ∀ b, (∀ j, j < 4 → replaced j → b ≠ c + j) → Memory.read (Memory.writeVal m c x .word) b = Memory.read m b := by
  refine ⟨fun j hj hr => ?_, fun b hb => ?_⟩
  · rw [Memory.read_writeVal_word hm c x hj, hx j hj, if_pos hr]
  · by_cases hout : b < c ∨ c + 4 ≤ b
    · exact Memory.read_writeVal_outside m x .word hout
    · obtain ⟨j, rfl⟩ : ∃ j, b = c + j := ⟨b - c, by omega⟩
      have hj : j < 4 := by omega
      apply BitVec.eq_of_toNat_eq
      rw [Memory.read_writeVal_word hm c x hj, hx j hj, if_neg fun hr => hb j hj hr rfl, Memory.readVal_word_byte m c hj]

/-! ### SWL and SWR -/

section
variable {s : State} {a : Word}

/-- A partial store in RAM or the scratchpad writes the merged word at the cell of the aligned word (43_loadstore R364). -/
theorem storeMerged_of_inStore (hw : s.cfg.wf = true) (hi : ¬ isolated s) (h : inStore s (alignedWord a))
    (merge : BitVec 2 → Word → Word → Word) (rt : Reg) :
    storeMerged merge rt a s = .next (State.commit { s.charge s.cfg.dataAccessCycles with
      mem := Memory.writeVal s.mem (cellOf s (alignedWord a))
        (merge (lowBits a) (s.readReg rt) (Memory.readVal s.mem (cellOf s (alignedWord a)) .word)) .word } none none) := by
  obtain ⟨r, hr, hk⟩ := resolve_of_inStore hw h
  have hpartial (m : Word → Word) : storePartial (alignedWord a) m s = .ok { s.charge s.cfg.dataAccessCycles with
      mem := Memory.writeVal s.mem (cellOf s (alignedWord a)) (m (Memory.readVal s.mem (cellOf s (alignedWord a)) .word))
        .word } := (if_neg hi).trans (by simp only [hr, hk, State.charge_mem])
  rw [storeMerged, hpartial]
  rfl

/-- A partial store whose merge replaces some bytes of the word in memory stores these bytes alone. -/
theorem storeMerged_next (hw : s.cfg.wf = true) (hm : Memory.wf s.mem = true) (hi : ¬ isolated s)
    (h : inStore s (alignedWord a)) (rt : Reg) {merge : BitVec 2 → Word → Word → Word} {replaced : Nat → Prop}
    [DecidablePred replaced] {byte : Nat → Nat}
    (hmerge : ∀ w j, j < 4 → (merge (lowBits a) (s.readReg rt) w).toNat / 256 ^ j % 256 =
      if replaced j then byte j else w.toNat / 256 ^ j % 256) :
    ∃ t m, storeMerged merge rt a s = .next t ∧
      EndsWith { s with cycles := s.cycles + s.cfg.dataAccessCycles, mem := m } t none none ∧
      (∀ j, j < 4 → replaced j → (Memory.read m (cellOf s (alignedWord a) + j)).toNat = byte j) ∧
      ∀ b, (∀ j, j < 4 → replaced j → b ≠ cellOf s (alignedWord a) + j) → Memory.read m b = Memory.read s.mem b :=
  ⟨_, _, storeMerged_of_inStore hw hi h merge rt, State.commit_endsWith _ _ _, Memory.read_writeVal_merged hm (hmerge _)⟩

end

/-- Settles O35: SWL replaces the bytes up to the address's, SWR the bytes from it on. -/
theorem partialStoresMerge : Obligations.PartialStoresMerge := by
  unfold Obligations.PartialStoresMerge
  dsimp only
  intro s rt rs imm hw hm hi h
  rw [← alignedWord_eq] at h ⊢
  refine ⟨?swl, ?swr⟩
  case swl =>
    obtain ⟨t, m, hnext, hends, hbytes, hrest⟩ := storeMerged_next hw hm hi h rt (swlMerge_byte _ _)
    exact ⟨t, m, hnext, hends, fun j hj => hbytes j (by omega) hj, fun b hb => hrest b fun j _ hj => by omega⟩
  case swr =>
    obtain ⟨t, m, hnext, hends, hbytes, hrest⟩ := storeMerged_next hw hm hi h rt (swrMerge_byte _ _)
    exact ⟨t, m, hnext, hends, fun j hj hlt => hbytes j hlt hj, fun b hb => hrest b fun j _ hj => by omega⟩

end Sys2Proof.Machine
end

section
/-! SUPPORT. The event that is due: the least entry of the queue, what its firing leaves, and that it does not come back
(60_exceptions R481 to R486, 70_reset_and_hazards R575). -/

namespace Sys2Proof.Machine

/-! ### The event that is due -/

/-- The entry of a queue that lies before every other is the one looked at next (60_exceptions R484). -/
theorem leastEvent_eq_some {q : List Event} {e : Event} (he : e ∈ q)
    (hleast : ∀ f ∈ q, f ≠ e → e.target < f.target ∨ (e.target = f.target ∧ e.seq < f.seq)) :
    leastEvent q = some e := by
  cases q with
  | nil => cases he
  | cons g l =>
    by_contra hne
    have hne : leastFrom g l ≠ e := fun h => hne (congrArg some h)
    have hbefore := hleast _ (leastFrom_mem g l) hne
    have hle := leastFrom_le g l e he
    omega

section
variable {s : State} {e : Event}

/-- An entry that is not the sentinel and whose target is reached is due where it lies before every other. -/
theorem State.Inv.dueEvent_eq_some (h : s.Inv) (he : e ∈ s.queue) (hne : e ≠ sentinelEvent) (hdue : e.target ≤ s.cycles)
    (hleast : ∀ f ∈ s.queue, f ≠ e → e.target < f.target ∨ (e.target = f.target ∧ e.seq < f.seq)) :
    s.dueEvent = some e := by
  obtain ⟨hpay, -, -⟩ := h.entries e he hne
  rw [State.dueEvent, leastEvent_eq_some he hleast]
  exact if_pos ⟨hpay, hdue⟩

/-- An entry that is not the sentinel stands in the queue once (60_exceptions R481). -/
theorem State.Inv.not_mem_erase (h : s.Inv) (hpay : e.payload ≠ .sentinel) : e ∉ s.queue.erase e := by
  have hkeep : (e.payload != .sentinel) = true := bne_iff_ne.2 hpay
  have hnodup : (s.queue.filter fun f => f.payload != .sentinel).Nodup :=
    h.numbered.imp (S := (· ≠ ·)) fun hlt heq => Nat.lt_irrefl _ (heq ▸ hlt)
  have hone : s.queue.count e ≤ 1 := by
    rw [← List.count_filter (p := fun f : Event => f.payload != .sentinel) hkeep]
    exact List.nodup_iff_count_le_one.1 hnodup e
  rw [← List.count_eq_zero, List.count_erase_self]
  omega

/-- At the target of the event that is due, a step fires it (70_reset_and_hazards R575). -/
theorem State.Inv.step_fires (h : s.Inv) (hm : s.refusalMark = false) (he : e ∈ s.queue) (hdue : e.target ≤ s.cycles)
    (hfirst : s.dueEvent = some e) : step s = fireEvent e s :=
  step_eq_fireEvent hm (Nat.le_trans (h.wake.2 e he) hdue) hfirst

/-! ### What a firing answers (60_exceptions R483) -/

theorem fireEvent_irq {n : Nat} (hp : e.payload = .irq n) (hn : n < 16) :
    fireEvent e s = .next { s.dequeue e with iStat := s.iStat ||| BitVec.twoPow 16 n } := by
  rw [fireEvent, hp, firePayload, triggerInterrupt_of_lt hn]
  rfl

theorem fireEvent_ext {k : Nat} {t : State} (hp : e.payload = .ext k) (ht : collaboratorTurn (s.dequeue e) = .ok t) :
    fireEvent e s = .next t := by
  rw [fireEvent, hp, firePayload, ht]

/-- The entries that a turn inserts are numbered from the next number on (60_exceptions R481). -/
theorem le_seq_of_mem_insertedEvents {cycles k : Nat} {cs : List CollabCall} (h : e ∈ insertedEvents cycles k cs) :
    k ≤ e.seq := by
  induction cs generalizing k with
  | nil => cases h
  | cons c cs ih =>
    have later {f : Event} (hf : f.seq = k) (h : e ∈ f :: insertedEvents cycles (k + 1) cs) : k ≤ e.seq := by
      rcases List.mem_cons.1 h with rfl | h
      · exact hf.ge
      · exact Nat.le_of_succ_le (ih h)
    cases c with
    | triggerInterrupt n => exact ih h
    | scheduleEvent d n => exact later rfl h
    | scheduleInterrupt d n => exact later rfl h

/-- The turn of an event's firing does not insert that event again: its entries have greater numbers. -/
theorem State.Inv.not_mem_after_turn {t : State} (h : s.Inv) (he : e ∈ s.queue) (hne : e ≠ sentinelEvent)
    (htook : TookTurn (s.dequeue e) t) : e ∉ t.queue := by
  obtain ⟨hpay, -, hseq⟩ := h.entries e he hne
  rw [htook.queue, List.mem_append, not_or]
  exact ⟨h.not_mem_erase hpay, fun hmem => Nat.not_le.2 hseq (le_seq_of_mem_insertedEvents hmem)⟩

end

/-- Settles O50: the entry before every other is the event due, so the step fires it; it does not come back, and the invariant,
which the firing keeps, fixes the next-wake value. -/
theorem dueEventFiresOnce : Obligations.DueEventFiresOnce := by
  unfold Obligations.DueEventFiresOnce
  refine fun s hs hm => ⟨fun e he hne hdue hleast => ?_, fun hnone => ?_⟩
  · have hfirst : s.dueEvent = some e := hs.dueEvent_eq_some he hne hdue hleast
    have hstep := hs.step_fires hm he hdue hfirst
    refine ⟨fun n hp hn => ?_, fun k hp hturn => ?_⟩
    · refine ⟨_, hstep.trans (fireEvent_irq hp hn), rfl, hs.not_mem_erase (dueEvent_not_sentinel hfirst), fun k _ => ?_,
        (hs.dequeue hfirst).wake⟩
      rw [BitVec.getLsbD_or, BitVec.getLsbD_twoPow, decide_eq_true hn, Bool.true_and, beq_eq_decide,
        decide_eq_decide.2 eq_comm]
    · obtain ⟨t, ht, htook⟩ := collaboratorTurn_of_allowed (s := s.dequeue e) hturn
      have hinv : t.Inv := collaboratorTurn_keeps keeps_inv.toBusKeeps (hs.dequeue hfirst) ht
      exact ⟨t, _, hstep.trans (fireEvent_ext hp ht), htook, hs.not_mem_after_turn he hne htook, hinv.wake⟩
  · obtain ⟨f, hf, hwake⟩ := List.mem_map.1 hs.wake.1
    exact hwake ▸ hnone f hf

end Sys2Proof.Machine
end

section
/-! SUPPORT. The rules of a DMA channel: when it is active, which algorithm it runs, and its completion (60_exceptions R504, R509
to R513, R519). -/

namespace Sys2Proof.Machine

/-- Settles O59: both by number. -/
theorem dmaRules : Obligations.DmaRules := ⟨Channel.active_iff, masterValue_iff⟩

/-! ### The fields of a channel by number (60_exceptions R504, R505) -/

theorem Channel.sync_eq_iff (c : Channel) (y : BitVec 2) : c.sync = y ↔ c.chcr.toNat / 2 ^ 9 % 4 = y.toNat := by
  rw [← BitVec.toNat_inj, Channel.sync, BitVec.extractLsb'_toNat, Nat.shiftRight_eq_div_pow]

theorem Channel.fromRam_eq (c : Channel) : c.fromRam = (c.chcr.toNat % 2 == 1) := by
  rw [Bool.eq_iff_iff, Channel.fromRam, getLsbD_iff_toNat, pow_zero, Nat.div_one, beq_iff_eq]

theorem Channel.stepsDown_eq (c : Channel) : c.stepsDown = (c.chcr.toNat / 2 % 2 == 1) := by
  rw [Bool.eq_iff_iff, Channel.stepsDown, getLsbD_iff_toNat, pow_one, beq_iff_eq]

theorem countOf_eq (h : Half) : countOf h = countNat h.toNat := by
  simp only [countOf, countNat, ← BitVec.toNat_inj, BitVec.toNat_ofNat, Nat.zero_mod]

theorem Channel.wordCount_eq (c : Channel) : c.wordCount = c.words := by
  have hsize : (c.bcr.extractLsb' 0 16).toNat = c.bcr.toNat % 2 ^ 16 := by
    rw [BitVec.extractLsb'_toNat, Nat.shiftRight_zero]
  have hblocks : (c.bcr.extractLsb' 16 16).toNat = c.bcr.toNat / 2 ^ 16 := by
    have := c.bcr.isLt
    rw [BitVec.extractLsb'_toNat, Nat.shiftRight_eq_div_pow, Nat.mod_eq_of_lt (by omega)]
  simp only [Channel.wordCount, Channel.words, countOf_eq, hsize, hblocks, c.sync_eq_iff]
  rfl

/-! ### Which algorithm a channel runs (60_exceptions R513) -/

/-- Manual and Request sync. -/
theorem Channel.blockSync_iff (c : Channel) : (c.sync = 0#2 ∨ c.sync = 1#2) ↔ c.chcr.toNat / 2 ^ 9 % 4 ≤ 1 := by
  rw [c.sync_eq_iff, c.sync_eq_iff]
  exact Nat.le_one_iff_eq_zero_or_eq_one.symm

/-- In Manual and Request sync channel 6 clears an ordering table. -/
theorem runChannel_six {s : State} (h : s.chans[6].chcr.toNat / 2 ^ 9 % 4 ≤ 1) :
    runChannel 6 s = .ok (orderingTable s.chans[6].words s.chans[6].madr s) := by
  rw [← Channel.wordCount_eq]
  exact (if_pos (s.chans[6].blockSync_iff.2 h)).trans (if_pos rfl)

/-- Settles O53: by the sync mode, and then by the channel and the direction. -/
theorem channelAlgorithms : Obligations.ChannelAlgorithms := by
  unfold Obligations.ChannelAlgorithms
  dsimp only
  intro s n
  refine ⟨fun hy hn => ?_, fun hy hn => ?_, fun hy hn hd => ?_, fun h => ?_⟩
  · subst hn
    exact runChannel_six hy
  · rw [← Channel.wordCount_eq, ← Channel.fromRam_eq, ← Channel.stepsDown_eq]
    exact (if_pos (s.chans[n].blockSync_iff.2 hy)).trans (if_neg hn)
  · have hwalk : s.chans[n].sync = 2#2 ∧ n = 2 ∧ s.chans[n].fromRam = true :=
      ⟨(s.chans[n].sync_eq_iff 2#2).2 hy, hn, by rw [Channel.fromRam_eq, beq_iff_eq, hd]⟩
    exact (if_neg (mt s.chans[n].blockSync_iff.1 (by omega))).trans (if_pos hwalk)
  · have hblock : ¬ s.chans[n].chcr.toNat / 2 ^ 9 % 4 ≤ 1 := by omega
    have hwalk : ¬ (s.chans[n].sync = 2#2 ∧ n = 2 ∧ s.chans[n].fromRam = true) := by
      rintro ⟨hy, hn, hd⟩
      rw [Channel.sync_eq_iff] at hy
      rw [Channel.fromRam_eq, beq_iff_eq] at hd
      change _ = 2 at hy
      omega
    exact (if_neg (mt s.chans[n].blockSync_iff.1 hblock)).trans (if_neg hwalk)

/-! ### Completion (60_exceptions R519) -/

/-- DICR with the pending bit of a channel set where its enable bit is. -/
theorem dicrCompleted_bit (n : Fin 7) (d : Word) (k : Nat) :
    (dicrCompleted n d).getLsbD k = (d.getLsbD k || (k == 24 + n.val && d.getLsbD (16 + n.val))) := by
  have hpending : (BitVec.twoPow 32 (24 + n.val)).getLsbD k = (k == 24 + n.val) := by
    have := n.isLt
    rw [BitVec.getLsbD_twoPow, decide_eq_true (show 24 + n.val < 32 by omega), Bool.true_and, beq_eq_decide,
      decide_eq_decide.2 eq_comm]
  unfold dicrCompleted
  split
  · simp_all
  · simp_all

/-- CHCR with start and trigger cleared, and no other bit. -/
theorem chcrCompleted_bit (x : Word) {k : Nat} (hk : k < 32) :
    (x &&& 0xEEFFFFFF#32).getLsbD k = (x.getLsbD k && k != 24 && k != 28) := by
  rw [BitVec.getLsbD_and, Bool.and_assoc]
  congr 1
  interval_cases k <;> rfl

/-- The completion of a channel, where the interrupt of the master flag's rise would lie below the sentinel. -/
theorem completeChannel_newDicr {s : State} {n : Fin 7} (hlt : s.cycles + s.cfg.dmaIrqDelay < 2 ^ 64 - 1) :
    ∃ t, completeChannel n s = .ok t ∧
      NewDicr (s.setChannel n { s.chans[n] with chcr := s.chans[n].chcr &&& 0xEEFFFFFF#32 }) t
        (fun k => s.dicr.getLsbD k || (k == 24 + n.val && s.dicr.getLsbD (16 + n.val))) := by
  refine updateMaster_newDicr hlt (fun k _ => dicrCompleted_bit n s.dicr k) ?_
  have hne : ((31 : Nat) == 24 + n.val) = false := beq_false_of_ne (by omega)
  rw [dicrCompleted_bit, hne, Bool.false_and, Bool.or_false]
  rfl

/-- Settles O51: the new DICR of the completion, and the mask on CHCR bit by bit. -/
theorem completionRule : Obligations.CompletionRule := by
  unfold Obligations.CompletionRule
  intro s n hlt
  obtain ⟨t, ht, hdicr⟩ := completeChannel_newDicr (n := n) hlt
  exact ⟨t, _, ht, hdicr, fun k => chcrCompleted_bit _⟩

end Sys2Proof.Machine
end

section
/-! SUPPORT. DMA addresses by number, words written to RAM in order, and the ordering-table clear (60_exceptions R503, R516, R517,
R520). -/

namespace Sys2Proof.Machine

/-! ### DMA addresses by number (60_exceptions R503, R516) -/

/-- The mask of a DMA address cuts it to RAM and aligns it. -/
theorem dmaOffset_eq (a : Word) : dmaOffset a = ramOffset a := by
  have hcut : a &&& 0x001FFFFC#32 = alignedWord (a &&& 0x001FFFFF#32) := by
    rw [alignedWord, BitVec.and_assoc]
    rfl
  have hlow : (a &&& 0x001FFFFF#32).toNat = a.toNat % 2 ^ 21 := Nat.and_two_pow_sub_one_eq_mod _ 21
  rw [dmaOffset, hcut, alignedWord_eq, hlow, BitVec.toNat_ofNat, ramOffset]
  omega

theorem ramOffset_lt (a : Word) : ramOffset a < 0x200000 := by
  unfold ramOffset; omega

theorem ramOffset_mod_four (a : Word) : ramOffset a % 4 = 0 := Nat.mul_mod_left _ _

/-- A word of RAM is the number of its bytes. -/
theorem State.ramWord_toNat (s : State) (a : Word) : (s.ramWord a).toNat = leNat s.mem (ramOffset a) 4 :=
  dmaOffset_eq a ▸ readVal_toNat _ _ .word

theorem State.ramWord_eq (s : State) (a : Word) : s.ramWord a = BitVec.ofNat 32 (leNat s.mem (ramOffset a) 4) := by
  rw [← s.ramWord_toNat, BitVec.ofNat_toNat, BitVec.setWidth_eq]

theorem State.setRamWord_wf {s : State} (hm : Memory.wf s.mem = true) (a v : Word) : Memory.wf (s.setRamWord a v).mem = true :=
  Memory.wf_writeVal hm (dmaOffset a) v .word

@[simp] theorem dmaAddr_zero (a : Word) (down : Bool) : dmaAddr a down 0 = a := by
  cases down <;> simp [dmaAddr]

/-- The address after one word of a transfer (60_exceptions R516). -/
def nextAddr (down : Bool) (a : Word) : Word := if down then a - 4#32 else a + 4#32

/-- The addresses of a transfer after its first word. -/
theorem dmaAddr_succ (a : Word) (down : Bool) (i : Nat) : dmaAddr a down (i + 1) = dmaAddr (nextAddr down a) down i := by
  have hsplit : BitVec.ofNat 32 (4 * (i + 1)) = 4#32 + BitVec.ofNat 32 (4 * i) := by
    rw [← BitVec.ofNat_add, Nat.mul_succ, Nat.add_comm]
  cases down with
  | false => exact (congrArg (a + ·) hsplit).trans (BitVec.add_assoc _ _ _).symm
  | true => exact (congrArg (a - ·) hsplit).trans (sub_add_eq_sub_sub a _ _)

/-! ### Words written in order (60_exceptions R520) -/

theorem WordsWritten.zero (m : Memory) (at' val : Nat → Word) : WordsWritten m m 0 at' val :=
  ⟨fun _ hi => absurd hi (Nat.not_lt_zero _), fun _ _ => rfl⟩

/-- A word written, and then the words of the later addresses: the first stands unless a later write reaches its offset, since
offsets are aligned. -/
theorem WordsWritten.succ {m m' : Memory} {k : Nat} {at' val : Nat → Word} (hm : Memory.wf m)
    (h : WordsWritten (Memory.writeVal m (ramOffset (at' 0)) (val 0) .word) m' k (fun i => at' (i + 1)) (fun i => val (i + 1))) :
    WordsWritten m m' (k + 1) at' val := by
  obtain ⟨hlater, hrest⟩ := h
  refine ⟨fun i hi hlast => ?_, fun b hb => ?_⟩
  · cases i with
    | succ i =>
      exact hlater i (Nat.lt_of_succ_lt_succ hi) fun j hij hj => hlast (j + 1) (Nat.succ_lt_succ hij) (Nat.succ_lt_succ hj)
    | zero =>
      have hkept : leNat m' (ramOffset (at' 0)) 4 =
          leNat (Memory.writeVal m (ramOffset (at' 0)) (val 0) .word) (ramOffset (at' 0)) 4 := by
        refine leNat_congr fun b hlow hhigh => hrest b fun j hj => ?_
        dsimp only
        have hne := hlast (j + 1) (Nat.succ_pos j) (Nat.succ_lt_succ hj)
        have hfirst := ramOffset_mod_four (at' 0)
        have hother := ramOffset_mod_four (at' (j + 1))
        omega
      rw [hkept, ← Width.bytes, ← readVal_toNat, Memory.readVal_writeVal hm]
      rfl
  · rw [hrest b fun j hj => hb (j + 1) (Nat.succ_lt_succ hj)]
    exact Memory.read_writeVal_outside _ _ _ (hb 0 (Nat.succ_pos k))

/-! ### The ordering-table clear (60_exceptions R517) -/

/-- The word of the ordering table at the `i`-th address: the marker at the last, else the address below it in 21 bits. -/
def tableWordAt (a : Word) (count i : Nat) : Word :=
  if i + 1 = count then 0x00FFFFFF#32 else BitVec.ofNat 32 ((dmaAddr a true (i + 1)).toNat % 0x200000)

theorem tableWordAt_zero (a : Word) (k : Nat) : tableWordAt a (k + 1) 0 = otcWord (k == 0) a := by
  have hmask : (a - 4#32) &&& 0x001FFFFF#32 = BitVec.ofNat 32 ((a - 4#32).toNat % 0x200000) := by
    have hlt := Nat.mod_lt (a - 4#32).toNat (show 0 < 0x200000 by decide)
    apply BitVec.eq_of_toNat_eq
    rw [BitVec.toNat_ofNat, Nat.mod_eq_of_lt (by omega)]
    exact Nat.and_two_pow_sub_one_eq_mod _ 21
  cases k with
  | zero => rfl
  | succ k => exact (if_neg (by omega)).trans hmask.symm

theorem tableWordAt_succ (a : Word) (k i : Nat) : tableWordAt a (k + 1) (i + 1) = tableWordAt (a - 4#32) k i := by
  simp only [tableWordAt, dmaAddr_succ a true (i + 1), Nat.add_right_cancel_iff]
  rfl

/-- The clear changes memory alone. -/
theorem orderingTable_frame (k : Nat) (a : Word) (s : State) :
    orderingTable k a s = { s with mem := (orderingTable k a s).mem } := by
  induction k generalizing a s with
  | zero => rfl
  | succ k ih => exact ih (a - 4#32) (s.setRamWord a (otcWord (k == 0) a))

theorem orderingTable_wordsWritten {s : State} (hm : Memory.wf s.mem = true) (count : Nat) (a : Word) :
    WordsWritten s.mem (orderingTable count a s).mem count (dmaAddr a true) (tableWordAt a count) := by
  induction count generalizing a s with
  | zero => exact .zero _ _ _
  | succ k ih =>
    have hrest := ih (State.setRamWord_wf hm a (otcWord (k == 0) a)) (a - 4#32)
    refine .succ hm ?_
    simp only [dmaAddr_succ, tableWordAt_succ, tableWordAt_zero, dmaAddr_zero, ← dmaOffset_eq]
    exact hrest

/-- Settles O54: by induction over the words, the first write first. -/
theorem orderingTableClears : Obligations.OrderingTableClears := by
  unfold Obligations.OrderingTableClears
  exact fun s a count hm => ⟨orderingTable_frame count a s, orderingTable_wordsWritten hm count a⟩

end Sys2Proof.Machine
end

section
/-! SUPPORT. A store that starts channel 6: the write of CHCR_6, the pass in which channel 6 alone is active, and its completion
(60_exceptions R502, R509, R515, R517, R519). -/

namespace Sys2Proof.Machine

/-! ### The pass in which channel 6 alone is active -/

/-- Channels that are not active are passed over. -/
theorem channelPasses_skip {s : State} {ns ms : List (Fin 7)} (h : ∀ k ∈ ns, ¬ s.chans[k].startsTransfer) :
    channelPasses (ns ++ ms) s = channelPasses ms s := by
  induction ns with
  | nil => rfl
  | cons n ns ih =>
    obtain ⟨hn, hns⟩ := List.forall_mem_cons.1 h
    have hpass : channelPass n s = .ok s := if_neg (mt s.chans[n].active_iff.1 hn)
    rw [List.cons_append, channelPasses, hpass]
    exact ih hns

/-- A pass in which channel 6 alone is active, in Manual or Request sync, clears its table and completes it. -/
theorem activationPass_six {s : State} {c : Channel} (hc : s.chans[6] = c) (h6 : c.startsTransfer)
    (hsync : c.chcr.toNat / 2 ^ 9 % 4 ≤ 1) (hrest : ∀ n : Fin 7, n ≠ 6 → ¬ s.chans[n].startsTransfer) :
    activationPass s = completeChannel 6 (orderingTable c.words c.madr s) := by
  subst hc
  have hskip : activationPass s = channelPasses [6] s :=
    channelPasses_skip (ns := [0, 1, 2, 3, 4, 5]) fun k hk => hrest k (by rintro rfl; exact absurd hk (by decide))
  have hpass : channelPass 6 s = completeChannel 6 (orderingTable s.chans[6].words s.chans[6].madr s) :=
    (if_pos (s.chans[6].active_iff.2 h6)).trans (by rw [runChannel_six hsync])
  rw [hskip, channelPasses, hpass]
  cases completeChannel 6 (orderingTable s.chans[6].words s.chans[6].madr s) <;> rfl

/-! ### The write of CHCR_6 -/

@[simp] theorem State.setChannel_getElem_self (s : State) (n : Fin 7) (c : Channel) : (s.setChannel n c).chans[n] = c :=
  Vector.getElem_set_self n.isLt

theorem State.setChannel_getElem_ne {n k : Fin 7} (h : k ≠ n) (s : State) (c : Channel) :
    (s.setChannel n c).chans[k] = s.chans[k] :=
  Vector.getElem_set_ne n.isLt k.isLt fun he => h (Fin.ext he.symm)

theorem State.setChannel_setChannel (s : State) (n : Fin 7) (c c' : Channel) :
    (s.setChannel n c).setChannel n c' = s.setChannel n c' := by
  simp only [State.setChannel, Vector.set_set]

/-- The pass after a write of channel 6's registers that makes it the one active channel, in Manual or Request sync. -/
theorem activationPass_setChannel_six {s : State} {c : Channel} (hm : Memory.wf s.mem = true) (h6 : c.startsTransfer)
    (hsync : c.chcr.toNat / 2 ^ 9 % 4 ≤ 1) (hrest : ∀ n : Fin 7, n ≠ 6 → ¬ s.chans[n].startsTransfer)
    (hlt : s.cycles + s.cfg.dmaIrqDelay < 2 ^ 64 - 1) :
    ∃ t mem, activationPass (s.setChannel 6 c) = .ok t ∧
      WordsWritten s.mem mem c.words (dmaAddr c.madr true) (tableWordAt c.madr c.words) ∧
      NewDicr { s with mem := mem, chans := s.chans.set 6 { c with chcr := c.chcr &&& 0xEEFFFFFF#32 } } t
        (fun k => s.dicr.getLsbD k || (k == 30 && s.dicr.getLsbD 22)) := by
  have hother (n : Fin 7) (hn : n ≠ 6) : ¬ (s.setChannel 6 c).chans[n].startsTransfer := by
    rw [State.setChannel_getElem_ne hn]
    exact hrest n hn
  have hpass := activationPass_six (s.setChannel_getElem_self 6 c) h6 hsync hother
  rw [orderingTable_frame] at hpass
  obtain ⟨t, ht, hdicr⟩ := completeChannel_newDicr (n := 6)
    (s := State.setChannel { s with mem := (orderingTable c.words c.madr (s.setChannel 6 c)).mem } 6 c) hlt
  rw [State.setChannel_getElem_self, State.setChannel_setChannel] at hdicr
  exact ⟨t, _, hpass.trans ht, orderingTable_wordsWritten (s := s.setChannel 6 c) hm _ _, hdicr⟩

/-- Settles O55: the write reaches CHCR_6, its pass runs the ordering table of channel 6 alone, and completes it. -/
theorem storeRunsOrderingTable : Obligations.StoreRunsOrderingTable := by
  unfold Obligations.StoreRunsOrderingTable
  dsimp only
  intro s rt rs imm hw hm hi hp hlt h6 hsync hrest
  have hreg : dmaRegAt (virtPhys (s.ea rs imm) - 0x1F801080) = .chcr 6 := by rw [hp]; rfl
  have haligned : alignedTo .word (s.ea rs imm) := by
    simp only [virtPhys, alignedTo, Width.bytes] at hp ⊢
    split_ifs at hp <;> omega
  obtain ⟨m, mem, hpass, hwritten, hdicr⟩ :=
    activationPass_setChannel_six (s := s.charge s.cfg.dataAccessCycles) hm h6 hsync hrest hlt
  obtain ⟨t, ht, hends⟩ := plainStore_next (i := .sw rt rs imm) rfl haligned
    ((memWrite_of_inDma hw hi (by omega) hreg _).trans hpass)
  exact ⟨t, m, _, mem, ht, hends, hwritten, fun k => chcrCompleted_bit _, hdicr⟩

end Sys2Proof.Machine
end

section
/-! SUPPORT. The transfers of the DMA controller through a port: what the words handed to a port leave of a state, the words taken
from one, and the block copies made of them (60_exceptions R514, R516, R520). -/

namespace Sys2Proof.Machine

/-! ### Words handed to a port (60_exceptions R514) -/

/-- `t` is `s` after words have been handed to the port of channel `n` in order: each is recorded, and the collaborator has its
turn. -/
structure Sent (n : Fin 7) (ws : List Word) (s t : State) : Prop where
  frame : t = { s with
    iStat := t.iStat, queue := t.queue, seq := t.seq, nextWake := t.nextWake, script := t.script, extLog := t.extLog }
  log : t.extLog = (ws.map (ExtRecord.portWrite n.val)).reverse ++ s.extLog
  quiet : s.script = [] → t = { s with extLog := t.extLog }

theorem Sent.nil (n : Fin 7) (s : State) : Sent n [] s s := ⟨rfl, rfl, fun _ => rfl⟩

theorem Sent.script {n : Fin 7} {ws : List Word} {s t : State} (h : Sent n ws s t) (hs : s.script = []) : t.script = [] := by
  rw [h.quiet hs]
  exact hs

theorem Sent.mem {n : Fin 7} {ws : List Word} {s t : State} (h : Sent n ws s t) : t.mem = s.mem := by rw [h.frame]

theorem Sent.append {n : Fin 7} {ws ws' : List Word} {s t u : State} (h : Sent n ws s t) (h' : Sent n ws' t u) :
    Sent n (ws ++ ws') s u where
  frame := h'.frame.trans (by rw [h.frame])
  log := by rw [h'.log, h.log, List.map_append, List.reverse_append, List.append_assoc]
  quiet hs := (h'.quiet (h.script hs)).trans (by rw [h.quiet hs])

theorem portWrite_sent {n : Fin 7} {v : Word} {s t : State} (h : portWrite n v s = .ok t) : Sent n [v] s t where
  frame := by rw [collaboratorTurn_frame h]
  log := by rw [collaboratorTurn_frame h]; rfl
  quiet hs := by
    have hturn := (collaboratorTurn_nil (s := { s with extLog := .portWrite n.val v :: s.extLog }) hs).symm.trans h
    cases hturn
    rfl

/-- With no turn outstanding a port takes every word. -/
theorem portWrite_completes {s : State} (hs : s.script = []) (n : Fin 7) (v : Word) : ∃ t, portWrite n v s = .ok t :=
  ⟨_, collaboratorTurn_nil (s := { s with extLog := .portWrite n.val v :: s.extLog }) hs⟩

/-! ### A block copy from RAM (60_exceptions R516) -/

theorem blockCopy_succ_ok {n : Fin 7} {fromRam down : Bool} {k : Nat} {a : Word} {s t : State} :
    blockCopy n fromRam down (k + 1) a s = .ok t ↔
      ∃ u, copyWord n fromRam a s = .ok u ∧ blockCopy n fromRam down k (nextAddr down a) u = .ok t := by
  rw [blockCopy]
  cases copyWord n fromRam a s <;> simp [nextAddr]

/-- The words of RAM at the addresses of a transfer. -/
def ramWordsAt (m : Memory) (a : Word) (down : Bool) (count : Nat) : List Word :=
  (List.range count).map fun i => BitVec.ofNat 32 (leNat m (ramOffset (dmaAddr a down i)) 4)

theorem ramWordsAt_succ (s : State) (a : Word) (down : Bool) (k : Nat) :
    ramWordsAt s.mem a down (k + 1) = s.ramWord a :: ramWordsAt s.mem (nextAddr down a) down k := by
  simp only [ramWordsAt, List.range_succ_eq_map, List.map_cons, List.map_map, dmaAddr_zero, State.ramWord_eq]
  simp only [Function.comp_def, Nat.succ_eq_add_one, dmaAddr_succ]

theorem blockCopy_fromRam_sent {n : Fin 7} {down : Bool} {count : Nat} {a : Word} {s t : State}
    (h : blockCopy n true down count a s = .ok t) : Sent n (ramWordsAt s.mem a down count) s t := by
  induction count generalizing a s with
  | zero => cases h; exact .nil n _
  | succ k ih =>
    obtain ⟨u, hu, ht⟩ := blockCopy_succ_ok.1 h
    have hfirst : Sent n [s.ramWord a] s u := portWrite_sent hu
    rw [ramWordsAt_succ, ← hfirst.mem]
    exact hfirst.append (ih ht)

/-! ### A block copy to RAM (60_exceptions R516) -/

/-- `t` is `s` after words from a port have been written to RAM at addresses in order: each a free value, with a turn of the
collaborator. -/
structure Received (count : Nat) (at' : Nat → Word) (s t : State) : Prop where
  words : WordsWritten s.mem t.mem count at' fun i => Config.drawWord (s.draws + i)
  draws : t.draws = s.draws + count
  frame : t = { s with
    mem := t.mem, iStat := t.iStat, queue := t.queue, seq := t.seq, nextWake := t.nextWake, draws := t.draws,
    script := t.script }
  quiet : s.script = [] → t = { s with mem := t.mem, draws := t.draws }

/-- One word from a port to RAM. -/
theorem copyWord_toRam_ok {n : Fin 7} {a : Word} {s t : State} (h : copyWord n false a s = .ok t) :
    ∃ u, collaboratorTurn s.draw.2 = .ok u ∧ t = u.setRamWord a (Config.drawWord s.draws) := by
  simp only [copyWord, portRead] at h
  cases hu : collaboratorTurn s.draw.2 with
  | ok u =>
    rw [hu] at h
    cases h
    exact ⟨u, rfl, rfl⟩
  | error r =>
    rw [hu] at h
    cases h

theorem copyWord_completes {s : State} (hs : s.script = []) (n : Fin 7) (fromRam : Bool) (a : Word) :
    ∃ t, copyWord n fromRam a s = .ok t ∧ t.script = [] := by
  cases fromRam with
  | true =>
    obtain ⟨t, ht⟩ := portWrite_completes hs n (s.ramWord a)
    exact ⟨t, ht, (portWrite_sent ht).script hs⟩
  | false =>
    have hturn : collaboratorTurn s.draw.2 = .ok s.draw.2 := collaboratorTurn_nil hs
    refine ⟨s.draw.2.setRamWord a s.draw.1, ?_, hs⟩
    simp only [copyWord, portRead, hturn]
    rfl

/-- With no turn outstanding a block copy completes. -/
theorem blockCopy_completes {s : State} (hs : s.script = []) (n : Fin 7) (fromRam down : Bool) (count : Nat) (a : Word) :
    ∃ t, blockCopy n fromRam down count a s = .ok t := by
  induction count generalizing a s with
  | zero => exact ⟨s, rfl⟩
  | succ k ih =>
    obtain ⟨u, hu, hscript⟩ := copyWord_completes hs n fromRam a
    obtain ⟨t, ht⟩ := ih hscript (nextAddr down a)
    exact ⟨t, blockCopy_succ_ok.2 ⟨u, hu, ht⟩⟩

theorem blockCopy_toRam_received {n : Fin 7} {down : Bool} {count : Nat} {a : Word} {s t : State}
    (hm : Memory.wf s.mem = true) (h : blockCopy n false down count a s = .ok t) : Received count (dmaAddr a down) s t := by
  induction count generalizing a s with
  | zero => cases h; exact ⟨.zero _ _ _, rfl, rfl, fun _ => rfl⟩
  | succ k ih =>
    obtain ⟨u, hu, ht⟩ := blockCopy_succ_ok.1 h
    obtain ⟨v, hturn, rfl⟩ := copyWord_toRam_ok hu
    have hframe := collaboratorTurn_frame hturn
    have hmem : v.mem = s.mem := by rw [hframe]; rfl
    have hdraws : v.draws = s.draws + 1 := by rw [hframe]; rfl
    have hrest := ih (State.setRamWord_wf (hmem ▸ hm) a (Config.drawWord s.draws)) ht
    refine ⟨.succ hm ?_, ?_, ?_, fun hs => ?_⟩
    · have hwords := hrest.words
      simp only [State.setRamWord_mem, State.setRamWord_draws, hmem, hdraws, dmaOffset_eq] at hwords
      simpa only [dmaAddr_zero, dmaAddr_succ, Nat.add_zero, Nat.add_assoc, Nat.add_comm 1] using hwords
    · rw [hrest.draws, State.setRamWord_draws, hdraws, Nat.add_assoc, Nat.add_comm 1]
    · rw [hrest.frame, hframe]
      rfl
    · have hv : v = s.draw.2 := Except.ok.inj (hturn.symm.trans (collaboratorTurn_nil hs))
      subst hv
      exact (hrest.quiet hs).trans rfl

/-- Settles O60: from RAM by the words handed to the port, to RAM by the words taken from it. -/
theorem blockCopies : Obligations.BlockCopies := by
  unfold Obligations.BlockCopies
  refine fun s n down count a hm => ⟨fun t ht => ?_, fun hs => ?_, fun t ht => ?_, fun hs => ?_⟩
  · have hsent := blockCopy_fromRam_sent ht
    have hlog := hsent.log
    rw [ramWordsAt, List.map_map] at hlog
    refine ⟨hsent.mem, ?_, ?_, ?_, hlog⟩ <;> rw [hsent.frame]
  · obtain ⟨t, ht⟩ := blockCopy_completes hs n true down count a
    exact ⟨t, ht, (blockCopy_fromRam_sent ht).quiet hs⟩
  · have hreceived := blockCopy_toRam_received hm ht
    refine ⟨hreceived.words, hreceived.draws, ?_, ?_, ?_⟩ <;> rw [hreceived.frame]
  · obtain ⟨t, ht⟩ := blockCopy_completes hs n false down count a
    exact ⟨t, ht, (blockCopy_toRam_received hm ht).quiet hs⟩

end Sys2Proof.Machine
end

section
/-! SUPPORT. The linked-list transfer of channel 2: the payload of a node, one node of the walk, and that a walk which comes back
to no node ends before the model's bound (60_exceptions R447, R518; log 12). -/

namespace Sys2Proof.Machine

/-! ### The payload of a node -/

/-- The payload words of the node at a RAM offset from the `k`-th on, so many of them. -/
def payloadFrom (m : Memory) (o k left : Nat) : List Word :=
  (List.range left).map fun i => BitVec.ofNat 32 (leNat m ((o + 4 * (k + i)) % 0x200000) 4)

theorem payloadFrom_succ (m : Memory) (o k left : Nat) : payloadFrom m o k (left + 1) =
    BitVec.ofNat 32 (leNat m ((o + 4 * k) % 0x200000) 4) :: payloadFrom m o (k + 1) left := by
  simp only [payloadFrom, List.range_succ_eq_map, List.map_cons, List.map_map, Nat.add_zero]
  simp only [Function.comp_def, Nat.succ_eq_add_one, Nat.add_assoc, Nat.add_comm 1]

theorem nodePayload_eq (m : Memory) (o : Nat) : nodePayload m o = payloadFrom m o 1 (leNat m o 4 / 2 ^ 24) := by
  simp only [nodePayload, payloadFrom, Nat.add_comm 1]

/-- The `k`-th word from a node's, by number: it wraps at the end of RAM. -/
theorem ramOffset_node_add (a : Word) (k : Nat) :
    ramOffset ((a &&& 0x001FFFFC#32) + BitVec.ofNat 32 (4 * k)) = (ramOffset a + 4 * k) % 0x200000 := by
  have hnode : (a &&& 0x001FFFFC#32).toNat = ramOffset a := dmaOffset_eq a
  have haligned := ramOffset_mod_four a
  rw [ramOffset, BitVec.toNat_add, BitVec.toNat_ofNat, hnode]
  omega

theorem sendPayload_sent {a : Word} {left k : Nat} {s t : State} (h : sendPayload (a &&& 0x001FFFFC#32) left k s = .ok t) :
    Sent 2 (payloadFrom s.mem (ramOffset a) k left) s t := by
  induction left generalizing k s with
  | zero => cases h; exact .nil 2 _
  | succ left ih =>
    simp only [sendPayload] at h
    split at h
    · have hfirst := portWrite_sent ‹_›
      have hrest := ih h
      rw [hfirst.mem] at hrest
      rw [payloadFrom_succ, ← ramOffset_node_add, ← State.ramWord_eq]
      exact hfirst.append hrest
    · cases h

/-- With no turn outstanding every payload is taken. -/
theorem sendPayload_completes {s : State} (hs : s.script = []) (node : Word) (left k : Nat) :
    ∃ t, sendPayload node left k s = .ok t := by
  induction left generalizing k s with
  | zero => exact ⟨s, rfl⟩
  | succ left ih =>
    obtain ⟨u, hu⟩ := portWrite_completes hs 2 (s.ramWord (node + BitVec.ofNat 32 (4 * k)))
    rw [sendPayload, hu]
    exact ih ((portWrite_sent hu).script hs) (k + 1)

/-! ### One node of the walk -/

/-- The sending of the node at an address: its payload (60_exceptions R518). -/
def sendNode (a : Word) (s : State) : Except Refusal State :=
  sendPayload (a &&& 0x001FFFFC#32) ((s.ramWord a).extractLsb' 24 8).toNat 1 s

theorem sendNode_completes {s : State} (hs : s.script = []) (a : Word) : ∃ t, sendNode a s = .ok t :=
  sendPayload_completes hs _ _ _

/-- The address that a node leads to. -/
def nextNode (s : State) (a : Word) : Word := s.ramWord a &&& 0x003FFFFF#32

theorem ramOffset_nextNode (s : State) (a : Word) :
    ramOffset (nextNode s a) = leNat s.mem (ramOffset a) 4 % 2 ^ 22 % 0x200000 / 4 * 4 := by
  have hmask : (nextNode s a).toNat = (s.ramWord a).toNat % 2 ^ 22 := Nat.and_two_pow_sub_one_eq_mod _ 22
  rw [ramOffset, hmask, State.ramWord_toNat]

theorem sendNode_sent {a : Word} {s t : State} (h : sendNode a s = .ok t) : Sent 2 (nodePayload s.mem (ramOffset a)) s t := by
  have hcount : ((s.ramWord a).extractLsb' 24 8).toNat = leNat s.mem (ramOffset a) 4 / 2 ^ 24 := by
    have := (s.ramWord a).isLt
    rw [BitVec.extractLsb'_toNat, Nat.shiftRight_eq_div_pow, Nat.mod_eq_of_lt (by omega), State.ramWord_toNat]
  rw [nodePayload_eq, ← hcount]
  exact sendPayload_sent h

/-- A node seen again is refused. -/
theorem linkedList_of_seen {seen : List Nat} {a : Word} (h : ramOffset a ∈ seen) (fuel : Nat) (s : State) :
    linkedList fuel seen a s = .error .linkedListNeverTerminates := by
  rw [← dmaOffset_eq] at h
  cases fuel with
  | zero => rfl
  | succ fuel => exact if_pos h

theorem linkedList_of_refused {seen : List Nat} {a : Word} {s : State} {r : Refusal} (ho : ramOffset a ∉ seen)
    (hr : sendNode a s = .error r) (fuel : Nat) : linkedList (fuel + 1) seen a s = .error r := by
  rw [← dmaOffset_eq] at ho
  exact (if_neg ho).trans (by rw [sendNode] at hr; simp only [hr])

/-- A node sent ends the walk if it is terminal, and the walk goes on from the next one if not. -/
theorem linkedList_of_sent {seen : List Nat} {a : Word} {s t : State} (ho : ramOffset a ∉ seen) (ht : sendNode a s = .ok t)
    (fuel : Nat) : linkedList (fuel + 1) seen a s =
      if leNat s.mem (ramOffset a) 4 / 2 ^ 23 % 2 = 1 then .ok t
      else linkedList fuel (ramOffset a :: seen) (nextNode s a) t := by
  rw [← dmaOffset_eq] at ho
  rw [← State.ramWord_toNat, ← dmaOffset_eq]
  simp only [← getLsbD_iff_toNat]
  exact (if_neg ho).trans (by rw [sendNode] at ht; simp only [ht]; rfl)

/-! ### The walk (60_exceptions R518) -/

/-- A transfer that completes has sent the words of a walk. -/
theorem linkedList_walk {fuel : Nat} {seen : List Nat} {a : Word} {s t : State} (h : linkedList fuel seen a s = .ok t) :
    ∃ ws, ListWalk s.mem seen (ramOffset a) ws ∧ Sent 2 ws s t := by
  induction fuel generalizing seen a s with
  | zero => cases h
  | succ fuel ih =>
    by_cases ho : ramOffset a ∈ seen
    · rw [linkedList_of_seen ho] at h; cases h
    cases hu : sendNode a s with
    | error r => rw [linkedList_of_refused ho hu] at h; cases h
    | ok u =>
      have hsent := sendNode_sent hu
      rw [linkedList_of_sent ho hu] at h
      split at h
      case isTrue hlast => cases h; exact ⟨_, .last _ _ ho hlast, hsent⟩
      case isFalse hlast =>
        obtain ⟨ws, hwalk, hrest⟩ := ih h
        rw [hsent.mem, ramOffset_nextNode] at hwalk
        exact ⟨_, .node _ _ _ ho (by omega) hwalk, hsent.append hrest⟩

/-- With no turn outstanding the one refusal is that of a walk that does not end. -/
theorem linkedList_completes_or_refused {s : State} (hs : s.script = []) (fuel : Nat) (seen : List Nat) (a : Word) :
    (∃ t, linkedList fuel seen a s = .ok t) ∨ linkedList fuel seen a s = .error .linkedListNeverTerminates := by
  induction fuel generalizing seen a s with
  | zero => exact .inr rfl
  | succ fuel ih =>
    by_cases ho : ramOffset a ∈ seen
    · exact .inr (linkedList_of_seen ho _ s)
    obtain ⟨u, hu⟩ := sendNode_completes hs a
    rw [linkedList_of_sent ho hu]
    split
    · exact .inl ⟨u, rfl⟩
    · exact ih ((sendNode_sent hu).script hs) _ _

/-! ### The bound on the walk (log 12) -/

/-- Nodes seen on a walk: offsets of words of RAM, each once. -/
structure SeenNodes (seen : List Nat) : Prop where
  once : seen.Nodup
  inRam : ∀ o ∈ seen, o < 0x200000 ∧ o % 4 = 0

theorem SeenNodes.cons {seen : List Nat} (h : SeenNodes seen) {a : Word} (ho : ramOffset a ∉ seen) :
    SeenNodes (ramOffset a :: seen) :=
  ⟨List.nodup_cons.2 ⟨ho, h.once⟩, List.forall_mem_cons.2 ⟨⟨ramOffset_lt a, ramOffset_mod_four a⟩, h.inRam⟩⟩

/-- There are no more nodes than words of RAM. -/
theorem SeenNodes.length_le {seen : List Nat} (h : SeenNodes seen) : seen.length ≤ ramWords := by
  have hsub : seen ⊆ (List.range ramWords).map (4 * ·) := fun o ho => by
    obtain ⟨hlt, haligned⟩ := h.inRam o ho
    exact List.mem_map.2 ⟨o / 4, List.mem_range.2 (by unfold ramWords; omega), by omega⟩
  calc seen.length ≤ ((List.range ramWords).map (4 * ·)).length := (h.once.subperm hsub).length_le
    _ = ramWords := by rw [List.length_map, List.length_range]

/-- A bound that allows one node more than RAM has words is not used up by the nodes seen. -/
theorem SeenNodes.exists_fuel {seen : List Nat} (h : SeenNodes seen) {fuel : Nat} (hfuel : ramWords + 1 = fuel + seen.length) :
    ∃ f, fuel = f + 1 := by
  have := h.length_le
  exact Nat.exists_eq_succ_of_ne_zero (by omega)

/-- With no turn outstanding the transfer completes on every walk, since its bound allows one node more than RAM has words. -/
theorem linkedList_completes {m : Memory} {seen : List Nat} {o : Nat} {ws : List Word} (hwalk : ListWalk m seen o ws)
    (hseen : SeenNodes seen) {a : Word} {s : State} {fuel : Nat} (hm : s.mem = m) (ha : ramOffset a = o) (hs : s.script = [])
    (hfuel : ramWords + 1 = fuel + seen.length) : ∃ t, linkedList fuel seen a s = .ok t := by
  induction hwalk generalizing a s fuel with
  | last seen o ho hlast =>
    subst hm ha
    obtain ⟨f, rfl⟩ := hseen.exists_fuel hfuel
    obtain ⟨u, hu⟩ := sendNode_completes hs a
    exact ⟨u, (linkedList_of_sent ho hu f).trans (if_pos hlast)⟩
  | node seen o ws ho hnext _ ih =>
    subst hm ha
    obtain ⟨f, rfl⟩ := hseen.exists_fuel hfuel
    obtain ⟨u, hu⟩ := sendNode_completes hs a
    have hsent := sendNode_sent hu
    rw [linkedList_of_sent ho hu, if_neg (by omega)]
    exact ih (hseen.cons ho) hsent.mem (ramOffset_nextNode s a) (hsent.script hs) (by rw [List.length_cons]; omega)

/-- Settles O56: the walk from the transfer, the transfer from the walk, and no other refusal. -/
theorem linkedListWalk : Obligations.LinkedListWalk := by
  unfold Obligations.LinkedListWalk
  refine fun s a => ⟨fun t ht => ?_, fun hs ws hwalk => ?_, fun hs hnone => ?_⟩
  · obtain ⟨ws, hwalk, hsent⟩ := linkedList_walk ht
    refine ⟨ws, hwalk, hsent.mem, ?_, ?_, hsent.log⟩ <;> rw [hsent.frame]
  · obtain ⟨t, ht⟩ := linkedList_completes hwalk ⟨List.nodup_nil, by simp⟩ rfl rfl hs rfl
    obtain ⟨_, -, hsent⟩ := linkedList_walk ht
    exact ⟨t, ht, hsent.quiet hs⟩
  · refine (linkedList_completes_or_refused hs _ _ a).resolve_left fun ⟨t, ht⟩ => ?_
    obtain ⟨ws, hwalk, -⟩ := linkedList_walk ht
    exact hnone ws hwalk

end Sys2Proof.Machine
end
